-- ==== Sys2Proof/Word.lean ====
section
/-! DEFINITION. The words of the LBC-240's frames and records, the identifiers of section 5.2 of the manual, and the one
container for a fixed number of like records. -/

namespace Sys2Proof

/-- A byte of a frame (R174). -/
abbrev Byte := BitVec 8

/-- Hold 1 to 8 (section 5.2); hold `h` is the element `h - 1`. -/
abbrev HoldId := Fin 8

/-- Order id 1 to 64 (section 5.2); order `n` is the element `n - 1`. -/
abbrev OrderId := Fin 64

/-- Pass 1 to 12 (section 5.2); pass `n` is the element `n - 1`. -/
abbrev PassId := Fin 12

/-- One of the 16 slots of the lot accounts (section 10.1). -/
abbrev LotSlot := Fin 16

/-- A set of holds, bit `h - 1` for hold `h` (R175). -/
abbrev HoldSet := BitVec 8

/-- A time in ms, or a duration in ms (section 5.1). -/
abbrev Time := Nat

/-- The vector whose element at each index is given by a function. -/
def tabulate {α : Type} {n : Nat} (f : Fin n → α) : Vector α n :=
  ⟨⟨List.ofFn f⟩, by simp⟩

@[simp] theorem tabulate_getElem {α : Type} {n : Nat} (f : Fin n → α) (i : Nat) (h : i < n) :
    (tabulate f)[i] = f ⟨i, h⟩ := by
  simp [tabulate]

end Sys2Proof
end

