-- ==== Sys2Proof/Config.lean ====
section
/-! DEFINITION. The constants the manual fixes and names outside the settings store, and the free values: constants with no
body for the values the manual leaves unstated. -/

namespace Sys2Proof.Config

/-- The class of a drive must be confirmed within 2 s (R86). -/
def classTimeout : Time := 2000

/-- The belt must confirm within 5 s of the assertion of its run line (R64). -/
def confirmTimeout : Time := 5000

/-- The river level becomes stale 10 s after the last valid arrival (R11). -/
def levelStaleTime : Time := 10000

/-- A dust channel becomes stale 3 s after its last arrival (section 9.1, R152). -/
def dustStaleTime : Time := 3000

/-- A frame is discarded when more than 20 ms pass between two of its bytes (R176). -/
def frameGap : Time := 20

/-- The vessel headroom of R122, in kg. -/
def vesselCapacity : Nat := 4200000000

/-- The most saved masks on the suspension stack (R18). -/
def maxSaved : Nat := 6

/-- The most transit records on the belt (R136). -/
def maxRecords : Nat := 16

/-- The most bills in the bill store (R170). -/
def maxBills : Nat := 12

/-- The most replies that wait at one port (R177). -/
def maxReplies : Nat := 2

/-- The quay-X range (section 5.1), which stands for an absent GANTRY position (R83). -/
def quayLow : Int := -20000
/-- See `quayLow`. -/
def quayHigh : Int := 20000

/-- FREE VALUE: the code of the reply to a frame whose code is 80H or more, for which R174's "the request code plus 80H" is no
byte. DESIGN CHOICE, safe (notes/assumptions/10.md). -/
opaque replyCode : Byte → Byte

/-- FREE VALUE: how a time of 2^32 ms or more is sent in the 4 bytes of R175. DESIGN CHOICE, safe
(notes/assumptions/11.md). -/
opaque longTime : Time → BitVec 32

/-- FREE VALUE: the batch count of a lot after a report that finds the count at 2^32 - 1 (section 10.1). DESIGN CHOICE, safe
(notes/assumptions/12.md). -/
opaque batchCount : Nat → BitVec 32

end Sys2Proof.Config
end

