-- ==== Sys2Proof/Syntax.lean ====
section
/-! DEFINITION. The commands of the LBC-240: one constructor of `Instr` for each row of spec/opcode_table.json. A request
carries the port its frame arrives at and its fields as the raw words a frame carries, in the widths of R175; the owning block
checks their ranges. An arrival carries its value, an expiry the record whose deadline passes. -/

namespace Sys2Proof

/-- The four serial ports, in the order of the table of section 3.1 (R175). -/
inductive Port where
  | station
  | cab
  | ship
  | scale
deriving DecidableEq, Repr

/-- The three axes (chapter 5), in the order of R103. -/
inductive Axis where
  | gantry
  | reach
  | spout
deriving DecidableEq, Repr

/-- The six dust channels, in the order of the channel table of section 9.1. -/
inductive Channel where
  | head
  | transfer
  | gallery
  | tower
  | apron
  | extract
deriving DecidableEq, Repr

/-- The speed classes of a drive (section 5.1). -/
inductive SpeedClass where
  | stop
  | fine
  | fast
deriving DecidableEq, Repr

/-- The commands, one for each row of the opcode table. -/
inductive Instr where
  /-- VESSEL_OPEN (R172) -/
  | vesselOpen (p : Port) (code : BitVec 16)
  /-- VESSEL_CLOSE (R173) -/
  | vesselClose (p : Port)
  /-- DECLARE_HOLD (R3, R6) -/
  | declareHold (p : Port) (hold : Byte) (foreX aftX innerY outerY coaming : BitVec 16) (key mask : Byte)
  /-- SET_SHIP_OFFSET (R7) -/
  | setShipOffset (p : Port) (offset : BitVec 16) (heading : Byte)
  /-- READ_HOLD (R9) -/
  | readHold (p : Port) (hold : Byte)
  /-- READ_STAGED (R9): a hold, or 0 for the ship particulars -/
  | readStaged (p : Port) (hold : Byte)
  /-- SET_HOLD_LIMIT (R14) -/
  | setHoldLimit (p : Port) (hold : Byte) (limit : BitVec 32)
  /-- CLOSE_HATCH (R15) -/
  | closeHatch (p : Port) (hold : Byte)
  /-- OPEN_HATCH (R15) -/
  | openHatch (p : Port) (hold : Byte)
  /-- REPORT_DRAFT (R16): entries of a hold and a freeboard -/
  | reportDraft (p : Port) (entries : List (Byte × BitVec 16))
  /-- SET_TPC (R17) -/
  | setTpc (p : Port) (tpc : BitVec 32)
  /-- SUSPEND (R18) -/
  | suspend (p : Port) (holds : List Byte)
  /-- RESUME (R19) -/
  | resume (p : Port)
  /-- HOLD_FEED (R66) -/
  | holdFeed (p : Port)
  /-- RELEASE_FEED (R66) -/
  | releaseFeed (p : Port)
  /-- ADD_ORDER (R24) -/
  | addOrder (p : Port) (lot : BitVec 16) (hold : Byte) (target : BitVec 32) (along across cont notify retry : Byte)
  /-- WITHDRAW_ORDER (R32) -/
  | withdrawOrder (p : Port) (order : Byte)
  /-- REARM_ORDER (R33) -/
  | rearmOrder (p : Port) (order : Byte)
  /-- RELEASE_ORDER (R34) -/
  | releaseOrder (p : Port) (order : Byte)
  /-- READ_ORDER (R35) -/
  | readOrder (p : Port) (order : Byte)
  /-- SET_PASS (R38) -/
  | setPass (p : Port) (pass : Byte) (holds : List Byte)
  /-- CLEAR_PASS (R39): a pass, or 0 for all -/
  | clearPass (p : Port) (pass : Byte)
  /-- READ_PASS (R40): selector IN_EFFECT 0, STAGED 1 -/
  | readPass (p : Port) (pass selector : Byte)
  /-- START (R42) -/
  | start (p : Port)
  /-- STEP (R43) -/
  | step (p : Port)
  /-- HALT_SCHEDULE (R44) -/
  | haltSchedule (p : Port)
  /-- PAUSE (R65) -/
  | pause (p : Port)
  /-- CONTINUE (R65) -/
  | continuePour (p : Port)
  /-- TOP_OFF (R74) -/
  | topOff (p : Port)
  /-- TAKE_MANUAL (R101) -/
  | takeManual (p : Port)
  /-- RELEASE_MANUAL (R102) -/
  | releaseManual (p : Port)
  /-- JOG (R103): a signed distance in cm -/
  | jog (p : Port) (axis : Byte) (distance : BitVec 32)
  /-- SILENCE_HORN (R159) -/
  | silenceHorn (p : Port)
  /-- NEXT_BATCH (R121) -/
  | nextBatch (p : Port)
  /-- BATCH_REPORT (R126): flags UNSTABLE bit 0, FAULT bit 1 -/
  | batchReport (p : Port) (batch : BitVec 16) (gross tare : BitVec 32) (flags : Byte)
  /-- SCALE_STATUS (R120): READY 0, NOT_READY 1 -/
  | scaleStatus (p : Port) (readiness : Byte)
  /-- OPEN_LOT (R163) -/
  | openLot (p : Port) (lot shipper : BitVec 16) (grade : Byte) (declared : BitVec 32)
  /-- CLOSE_LOT (R165) -/
  | closeLot (p : Port) (lot : BitVec 16)
  /-- READ_LOT (R171) -/
  | readLot (p : Port) (lot : BitVec 16)
  /-- READ_BILL (R170) -/
  | readBill (p : Port)
  /-- RELEASE_BILL (R170) -/
  | releaseBill (p : Port) (bill : BitVec 32)
  /-- WRITE_SETTING (R183): the setting's number, the channel or port it belongs to where it does, the value -/
  | writeSetting (p : Port) (setting : Byte) (sub : Option Byte) (value : BitVec 32)
  /-- READ_SETTING (R183) -/
  | readSetting (p : Port) (setting : Byte) (sub : Option Byte)
  /-- READ_STATUS (R182): the section's place in the table of R182 -/
  | readStatus (p : Port) (selector : Byte)
  /-- READ_EVENTS (R180) -/
  | readEvents (p : Port)
  /-- SET_EVENT_ENABLE (R181) -/
  | setEventEnable (p : Port) (flags : BitVec 16)
  /-- FRAME_REFUSED (R178): a complete frame, its code and its body, put to the port unit's checks -/
  | frameRefused (p : Port) (code : Byte) (body : List Byte)
  /-- FRAME_DISCARDED (R176, R177) -/
  | frameDiscarded (p : Port)
  /-- FRAME_GAP_TIMEOUT (R176) -/
  | frameGapTimeout (p : Port)
  /-- REPLY_SENT (R177) -/
  | replySent (p : Port)
  /-- RESET (R184) -/
  | reset
  /-- START_UP (R185) -/
  | startUp
  /-- WRITE_COMPLETION (R183) -/
  | writeCompletion
  /-- EMERGENCY_STOP_ASSERT (R79) -/
  | emergencyStopAssert
  /-- EMERGENCY_STOP_RELEASE (R79) -/
  | emergencyStopRelease
  /-- DRIVE_FAULT_ASSERT (R88) -/
  | driveFaultAssert (a : Axis)
  /-- DRIVE_FAULT_RELEASE (R88) -/
  | driveFaultRelease (a : Axis)
  /-- POSITION_ARRIVAL (R83): a signed position in cm -/
  | positionArrival (a : Axis) (value : BitVec 32)
  /-- CLASS_ARRIVAL (R86) -/
  | classArrival (a : Axis) (c : SpeedClass)
  /-- CLASS_DEADLINE_EXPIRY (R86) -/
  | classDeadlineExpiry (a : Axis)
  /-- MOVE_DEADLINE_EXPIRY (R88) -/
  | moveDeadlineExpiry (a : Axis)
  /-- BELT_CONFIRM_CHANGE (R64): the new level of the running confirm input -/
  | beltConfirmChange (asserted : Bool)
  /-- CONFIRM_DEADLINE_EXPIRY (R64) -/
  | confirmDeadlineExpiry
  /-- BELT_PULSE (R137) -/
  | beltPulse
  /-- RIVER_LEVEL_ARRIVAL (R10): a signed level in cm -/
  | riverLevelArrival (value : BitVec 32)
  /-- LEVEL_STALE (R11) -/
  | levelStale
  /-- DUST_SAMPLE_ARRIVAL (R150) -/
  | dustSampleArrival (c : Channel) (value : BitVec 16)
  /-- DUST_STALE_EXPIRY (R152) -/
  | dustStaleExpiry (c : Channel)
  /-- LOCKOUT_EXPIRY (R155) -/
  | lockoutExpiry (h : HoldId)
  /-- EXAMINATION (R48) -/
  | examination
  /-- BYTE_ARRIVAL (R176) -/
  | byteArrival (p : Port) (b : Byte)
  /-- FRAMING_ERROR (R176) -/
  | framingError (p : Port)
deriving DecidableEq, Repr

end Sys2Proof
end

