-- ==== Sys2Proof/WellFormed.lean ====
section
/-! DEFINITION. Which commands are well formed: those whose request fits a frame (R174: a body of at most 249 bytes) and whose
layout fits the request (R178, check 1). Every fixed layout is well formed by its type; only lists and the byte that names a
channel or a port can fail. -/

namespace Sys2Proof

/-- The settings that belong to a dust channel, numbers 26 to 32 of R175. -/
def isChannelSetting (setting : Byte) : Bool := 26 ≤ setting.toNat && setting.toNat ≤ 32

/-- The port rate, number 34 of R175. -/
def isRateSetting (setting : Byte) : Bool := setting.toNat == 34

/-- A settings request names a channel or a port exactly when its setting belongs to one (R175). A number that names no setting
takes no such byte: DESIGN CHOICE, safe (notes/assumptions/14.md). -/
def subFits (setting : Byte) (sub : Option Byte) : Bool :=
  sub.isSome == (isChannelSetting setting || isRateSetting setting)

/-- The layout check of R178: the request fits a frame and its body fits the request. -/
def Instr.wellFormed : Instr → Bool
  | .reportDraft _ entries => 1 + 3 * entries.length ≤ 249
  | .suspend _ holds => 1 + holds.length ≤ 249
  | .setPass _ _ holds => 2 + holds.length ≤ 249
  | .writeSetting _ setting sub _ => subFits setting sub
  | .readSetting _ setting sub => subFits setting sub
  | .frameRefused _ _ body => body.length ≤ 249
  | _ => true

end Sys2Proof
end

