-- ==== Sys2Proof/Decode.lean ====
section
/-! DEFINITION. The byte forms of R174 and R175: numbers, lists, the CRC, request frames and their reading. The opcode table
gives bits for no row, so `decodeTableWord` answers none (notes/assumptions/25.md); the requests have a byte form all the same,
and BYTE_ARRIVAL reaches `decodeRequest` through it. After the decoder stands the encoder, written from the same rules. -/

namespace Sys2Proof

/-- The command that a word spells by the table's bits: the table gives none. -/
def decodeTableWord (_nbits _w : Nat) : Option Instr := none

/-! ### Numbers in a body, most significant byte first (R174) -/

/-- A 2-byte number from its bytes. -/
def word16 (a b : Byte) : BitVec 16 := a ++ b

/-- A 4-byte number from its bytes. -/
def word32 (a b c d : Byte) : BitVec 32 := a ++ b ++ c ++ d

/-- The bytes of a 2-byte number. -/
def bytes16 (w : BitVec 16) : List Byte := [w.extractLsb' 8 8, w.extractLsb' 0 8]

/-- The bytes of a 4-byte number. -/
def bytes32 (w : BitVec 32) : List Byte :=
  [w.extractLsb' 24 8, w.extractLsb' 16 8, w.extractLsb' 8 8, w.extractLsb' 0 8]

/-- Reads one byte and goes on with the rest. -/
def read8 {α : Type} (k : Byte → List Byte → Option α) : List Byte → Option α
  | a :: rest => k a rest
  | [] => none

/-- Reads a 2-byte number and goes on with the rest. -/
def read16 {α : Type} (k : BitVec 16 → List Byte → Option α) : List Byte → Option α
  | a :: b :: rest => k (word16 a b) rest
  | _ => none

/-- Reads a 4-byte number and goes on with the rest. -/
def read32 {α : Type} (k : BitVec 32 → List Byte → Option α) : List Byte → Option α
  | a :: b :: c :: d :: rest => k (word32 a b c d) rest
  | _ => none

/-- The body ends here. -/
def readEnd {α : Type} (x : α) : List Byte → Option α
  | [] => some x
  | _ :: _ => none

/-- A list of single bytes after its count byte, up to the end of the body (R174). -/
def readBytes {α : Type} (k : List Byte → Option α) : List Byte → Option α
  | n :: rest => if rest.length = n.toNat then k rest else none
  | [] => none

/-- Entries of a hold and a freeboard (R16), one after another. -/
def readEntries : List Byte → Option (List (Byte × BitVec 16))
  | [] => some []
  | h :: a :: b :: rest => (readEntries rest).map ((h, word16 a b) :: ·)
  | _ => none

/-- A list of such entries after its count byte, up to the end of the body. -/
def readEntryList {α : Type} (k : List (Byte × BitVec 16) → Option α) : List Byte → Option α
  | n :: rest => (readEntries rest).bind fun es => if es.length = n.toNat then k es else none
  | [] => none

/-- The number of a setting and, where it belongs to a channel or a port, the byte that names it (R175). -/
def readSettingName {α : Type} (k : Byte → Option Byte → List Byte → Option α) : List Byte → Option α :=
  read8 fun setting =>
    if subFits setting none then k setting none else read8 fun sub => k setting (some sub)

/-! ### Requests -/

/-- The request that a complete frame's code and body spell on port `p` (R175), or none where the code names no request or the
body does not fit its request (R178, check 1). -/
def decodeRequest (p : Port) (code : Byte) (body : List Byte) : Option Instr :=
  match code.toNat with
  | 0x01 => read16 (fun c => readEnd (.vesselOpen p c)) body
  | 0x02 => readEnd (.vesselClose p) body
  | 0x03 =>
    read8 (fun h => read16 fun fx => read16 fun ax => read16 fun iy => read16 fun oy => read16 fun co =>
      read8 fun key => read8 fun mask => readEnd (.declareHold p h fx ax iy oy co key mask)) body
  | 0x04 => read8 (fun n => readBytes fun hs => some (.setPass p n hs)) body
  | 0x05 => read8 (fun n => readEnd (.clearPass p n)) body
  | 0x06 => read8 (fun n => read8 fun sel => readEnd (.readPass p n sel)) body
  | 0x07 => read16 (fun l => read16 fun sh => read8 fun g => read32 fun d => readEnd (.openLot p l sh g d)) body
  | 0x08 => read16 (fun l => readEnd (.closeLot p l)) body
  | 0x09 =>
    read16 (fun l => read8 fun h => read32 fun t => read8 fun al => read8 fun ac => read8 fun c => read8 fun n =>
      read8 fun r => readEnd (.addOrder p l h t al ac c n r)) body
  | 0x0A => read8 (fun o => readEnd (.withdrawOrder p o)) body
  | 0x0B => read8 (fun o => readEnd (.rearmOrder p o)) body
  | 0x0C => read8 (fun o => readEnd (.releaseOrder p o)) body
  | 0x0D => readEnd (.readBill p) body
  | 0x0E => read32 (fun b => readEnd (.releaseBill p b)) body
  | 0x0F => readEnd (.haltSchedule p) body
  | 0x10 => readSettingName (fun n sub => read32 fun v => readEnd (.writeSetting p n sub v)) body
  | 0x11 => readSettingName (fun n sub => readEnd (.readSetting p n sub)) body
  | 0x12 => readEnd (.start p) body
  | 0x13 => readEnd (.step p) body
  | 0x14 => readEnd (.pause p) body
  | 0x15 => readEnd (.continuePour p) body
  | 0x16 => readEnd (.topOff p) body
  | 0x17 => readEnd (.takeManual p) body
  | 0x18 => readEnd (.releaseManual p) body
  | 0x19 => read8 (fun a => read32 fun d => readEnd (.jog p a d)) body
  | 0x1A => readEnd (.silenceHorn p) body
  | 0x1B => readEntryList (fun es => some (.reportDraft p es)) body
  | 0x1C => read32 (fun t => readEnd (.setTpc p t)) body
  | 0x1D => read8 (fun h => read32 fun l => readEnd (.setHoldLimit p h l)) body
  | 0x1E => read8 (fun h => readEnd (.closeHatch p h)) body
  | 0x1F => read8 (fun h => readEnd (.openHatch p h)) body
  | 0x20 => readBytes (fun hs => some (.suspend p hs)) body
  | 0x21 => readEnd (.resume p) body
  | 0x22 => readEnd (.holdFeed p) body
  | 0x23 => readEnd (.releaseFeed p) body
  | 0x24 => readEnd (.nextBatch p) body
  | 0x25 => read16 (fun n => read32 fun g => read32 fun t => read8 fun f => readEnd (.batchReport p n g t f)) body
  | 0x26 => read8 (fun r => readEnd (.scaleStatus p r)) body
  | 0x27 => read16 (fun o => read8 fun h => readEnd (.setShipOffset p o h)) body
  | 0x28 => read8 (fun s => readEnd (.readStatus p s)) body
  | 0x29 => read8 (fun h => readEnd (.readHold p h)) body
  | 0x2A => read8 (fun o => readEnd (.readOrder p o)) body
  | 0x2B => read16 (fun l => readEnd (.readLot p l)) body
  | 0x2C => read8 (fun h => readEnd (.readStaged p h)) body
  | 0x2D => readEnd (.readEvents p) body
  | 0x2E => read16 (fun f => readEnd (.setEventEnable p f)) body
  | _ => none

/-- The request code of R175, in the order of the table of R178; 0 for a command that is no request. -/
def Instr.requestCode : Instr → Byte
  | .vesselOpen .. => 0x01
  | .vesselClose .. => 0x02
  | .declareHold .. => 0x03
  | .setPass .. => 0x04
  | .clearPass .. => 0x05
  | .readPass .. => 0x06
  | .openLot .. => 0x07
  | .closeLot .. => 0x08
  | .addOrder .. => 0x09
  | .withdrawOrder .. => 0x0A
  | .rearmOrder .. => 0x0B
  | .releaseOrder .. => 0x0C
  | .readBill .. => 0x0D
  | .releaseBill .. => 0x0E
  | .haltSchedule .. => 0x0F
  | .writeSetting .. => 0x10
  | .readSetting .. => 0x11
  | .start .. => 0x12
  | .step .. => 0x13
  | .pause .. => 0x14
  | .continuePour .. => 0x15
  | .topOff .. => 0x16
  | .takeManual .. => 0x17
  | .releaseManual .. => 0x18
  | .jog .. => 0x19
  | .silenceHorn .. => 0x1A
  | .reportDraft .. => 0x1B
  | .setTpc .. => 0x1C
  | .setHoldLimit .. => 0x1D
  | .closeHatch .. => 0x1E
  | .openHatch .. => 0x1F
  | .suspend .. => 0x20
  | .resume .. => 0x21
  | .holdFeed .. => 0x22
  | .releaseFeed .. => 0x23
  | .nextBatch .. => 0x24
  | .batchReport .. => 0x25
  | .scaleStatus .. => 0x26
  | .setShipOffset .. => 0x27
  | .readStatus .. => 0x28
  | .readHold .. => 0x29
  | .readOrder .. => 0x2A
  | .readLot .. => 0x2B
  | .readStaged .. => 0x2C
  | .readEvents .. => 0x2D
  | .setEventEnable .. => 0x2E
  | .frameRefused .. | .frameDiscarded .. | .frameGapTimeout .. | .replySent .. | .reset | .startUp | .writeCompletion
  | .emergencyStopAssert | .emergencyStopRelease | .driveFaultAssert .. | .driveFaultRelease .. | .positionArrival ..
  | .classArrival .. | .classDeadlineExpiry .. | .moveDeadlineExpiry .. | .beltConfirmChange .. | .confirmDeadlineExpiry
  | .beltPulse | .riverLevelArrival .. | .levelStale | .dustSampleArrival .. | .dustStaleExpiry .. | .lockoutExpiry ..
  | .examination | .byteArrival .. | .framingError .. => 0

/-- The port a request names, none for a command that is no request. -/
def Instr.requestPort : Instr → Option Port
  | .vesselOpen p .. | .vesselClose p | .declareHold p .. | .setPass p .. | .clearPass p .. | .readPass p .. | .openLot p ..
  | .closeLot p .. | .addOrder p .. | .withdrawOrder p .. | .rearmOrder p .. | .releaseOrder p .. | .readBill p
  | .releaseBill p .. | .haltSchedule p | .writeSetting p .. | .readSetting p .. | .start p | .step p | .pause p
  | .continuePour p | .topOff p | .takeManual p | .releaseManual p | .jog p .. | .silenceHorn p | .reportDraft p ..
  | .setTpc p .. | .setHoldLimit p .. | .closeHatch p .. | .openHatch p .. | .suspend p .. | .resume p | .holdFeed p
  | .releaseFeed p | .nextBatch p | .batchReport p .. | .scaleStatus p .. | .setShipOffset p .. | .readStatus p ..
  | .readHold p .. | .readOrder p .. | .readLot p .. | .readStaged p .. | .readEvents p | .setEventEnable p .. => some p
  | .frameRefused .. | .frameDiscarded .. | .frameGapTimeout .. | .replySent .. | .reset | .startUp | .writeCompletion
  | .emergencyStopAssert | .emergencyStopRelease | .driveFaultAssert .. | .driveFaultRelease .. | .positionArrival ..
  | .classArrival .. | .classDeadlineExpiry .. | .moveDeadlineExpiry .. | .beltConfirmChange .. | .confirmDeadlineExpiry
  | .beltPulse | .riverLevelArrival .. | .levelStale | .dustSampleArrival .. | .dustStaleExpiry .. | .lockoutExpiry ..
  | .examination | .byteArrival .. | .framingError .. => none

/-- A list's count byte. -/
def countByte {α : Type} (l : List α) : Byte := BitVec.ofNat 8 l.length

/-- The body of a request's frame (R175); empty for a command that is no request. -/
def Instr.requestBody : Instr → List Byte
  | .vesselOpen _ code => bytes16 code
  | .declareHold _ h fx ax iy oy co key mask =>
    h :: (bytes16 fx ++ bytes16 ax ++ bytes16 iy ++ bytes16 oy ++ bytes16 co ++ [key, mask])
  | .setPass _ n hs => n :: countByte hs :: hs
  | .clearPass _ n => [n]
  | .readPass _ n sel => [n, sel]
  | .openLot _ l sh g d => bytes16 l ++ bytes16 sh ++ [g] ++ bytes32 d
  | .closeLot _ l | .readLot _ l => bytes16 l
  | .addOrder _ l h t al ac c n r => bytes16 l ++ [h] ++ bytes32 t ++ [al, ac, c, n, r]
  | .withdrawOrder _ o | .rearmOrder _ o | .releaseOrder _ o | .readOrder _ o => [o]
  | .releaseBill _ b => bytes32 b
  | .writeSetting _ n sub v => n :: (sub.toList ++ bytes32 v)
  | .readSetting _ n sub => n :: sub.toList
  | .jog _ a d => a :: bytes32 d
  | .reportDraft _ es => countByte es :: es.flatMap fun e => e.1 :: bytes16 e.2
  | .setTpc _ t => bytes32 t
  | .setHoldLimit _ h l => h :: bytes32 l
  | .closeHatch _ h | .openHatch _ h | .readHold _ h | .readStaged _ h => [h]
  | .suspend _ hs => countByte hs :: hs
  | .batchReport _ n g t f => bytes16 n ++ bytes32 g ++ bytes32 t ++ [f]
  | .scaleStatus _ r => [r]
  | .setShipOffset _ o h => bytes16 o ++ [h]
  | .readStatus _ s => [s]
  | .setEventEnable _ f => bytes16 f
  | .vesselClose _ | .readBill _ | .haltSchedule _ | .start _ | .step _ | .pause _ | .continuePour _ | .topOff _
  | .takeManual _ | .releaseManual _ | .silenceHorn _ | .resume _ | .holdFeed _ | .releaseFeed _ | .nextBatch _
  | .readEvents _ => []
  | .frameRefused .. | .frameDiscarded .. | .frameGapTimeout .. | .replySent .. | .reset | .startUp | .writeCompletion
  | .emergencyStopAssert | .emergencyStopRelease | .driveFaultAssert .. | .driveFaultRelease .. | .positionArrival ..
  | .classArrival .. | .classDeadlineExpiry .. | .moveDeadlineExpiry .. | .beltConfirmChange .. | .confirmDeadlineExpiry
  | .beltPulse | .riverLevelArrival .. | .levelStale | .dustSampleArrival .. | .dustStaleExpiry .. | .lockoutExpiry ..
  | .examination | .byteArrival .. | .framingError .. => []

/-! ### Frames (R174) -/

/-- One bit of the CRC register: shift, and subtract the generator x^16 + x^12 + x^5 + 1 where a bit falls out. -/
def crcShift (c : BitVec 16) : BitVec 16 :=
  if c.msb then (c <<< 1) ^^^ 0x1021#16 else c <<< 1

/-- One byte into the CRC register, most significant bit first. -/
def crcByte (c : BitVec 16) (b : Byte) : BitVec 16 :=
  crcShift (crcShift (crcShift (crcShift (crcShift (crcShift (crcShift (crcShift (c ^^^ (b ++ 0#8)))))))))

/-- The CRC-16 of R174: register FFFFH at the start, no final inversion. -/
def crc (bytes : List Byte) : BitVec 16 := bytes.foldl crcByte 0xFFFF#16

/-- The start byte of a frame. -/
def startByte : Byte := 0xA5

/-- The length byte, the code and the body of a frame: what its CRC covers. -/
def frameContent (code : Byte) (body : List Byte) : List Byte :=
  BitVec.ofNat 8 (body.length + 1) :: code :: body

/-- A frame as its bytes: start byte, length, code, body, CRC high byte first (R174). -/
def frameBytes (code : Byte) (body : List Byte) : List Byte :=
  startByte :: (frameContent code body ++ bytes16 (crc (frameContent code body)))

/-- The frame of a request. -/
def Instr.requestFrame (i : Instr) : List Byte := frameBytes i.requestCode i.requestBody

end Sys2Proof
end

