-- ==== Sys2Proof/Machine/State.lean ====
section
/-! DEFINITION. The state of the LBC-240 as plain data: the record of each block as its chapter gives it, the settings store, the
port records, the levels of the input lines, a clock and the queue of waiting commands; and the state after reset. -/

namespace Sys2Proof.Machine

/-! ### Containers for the ports, the axes and the channels -/

/-- One record for each port. -/
structure PerPort (α : Type) where
  station : α
  cab : α
  ship : α
  scale : α
deriving DecidableEq, Repr

/-- The record of a port. -/
def PerPort.get {α : Type} (v : PerPort α) : Port → α
  | .station => v.station
  | .cab => v.cab
  | .ship => v.ship
  | .scale => v.scale

/-- The records with one port's replaced. -/
def PerPort.set {α : Type} (v : PerPort α) (p : Port) (x : α) : PerPort α :=
  match p with
  | .station => { v with station := x }
  | .cab => { v with cab := x }
  | .ship => { v with ship := x }
  | .scale => { v with scale := x }

/-- One function applied to every port's record. -/
def PerPort.map {α β : Type} (f : α → β) (v : PerPort α) : PerPort β :=
  ⟨f v.station, f v.cab, f v.ship, f v.scale⟩

/-- One record for each axis. -/
structure PerAxis (α : Type) where
  gantry : α
  reach : α
  spout : α
deriving DecidableEq, Repr

/-- The record of an axis. -/
def PerAxis.get {α : Type} (v : PerAxis α) : Axis → α
  | .gantry => v.gantry
  | .reach => v.reach
  | .spout => v.spout

/-- The records with one axis's replaced. -/
def PerAxis.set {α : Type} (v : PerAxis α) (a : Axis) (x : α) : PerAxis α :=
  match a with
  | .gantry => { v with gantry := x }
  | .reach => { v with reach := x }
  | .spout => { v with spout := x }

/-- One function applied to every axis's record. -/
def PerAxis.map {α β : Type} (f : α → β) (v : PerAxis α) : PerAxis β :=
  ⟨f v.gantry, f v.reach, f v.spout⟩

/-- One record for each dust channel. -/
structure PerChannel (α : Type) where
  head : α
  transfer : α
  gallery : α
  tower : α
  apron : α
  extract : α
deriving DecidableEq, Repr

/-- The record of a channel. -/
def PerChannel.get {α : Type} (v : PerChannel α) : Channel → α
  | .head => v.head
  | .transfer => v.transfer
  | .gallery => v.gallery
  | .tower => v.tower
  | .apron => v.apron
  | .extract => v.extract

/-- The records with one channel's replaced. -/
def PerChannel.set {α : Type} (v : PerChannel α) (c : Channel) (x : α) : PerChannel α :=
  match c with
  | .head => { v with head := x }
  | .transfer => { v with transfer := x }
  | .gallery => { v with gallery := x }
  | .tower => { v with tower := x }
  | .apron => { v with apron := x }
  | .extract => { v with extract := x }

/-! ### Hold table (chapter 1) -/

/-- The fields of a hold record that have a staged copy (section 1.1): hatch coordinates, coaming height, grade test. -/
structure HoldGeom where
  foreX : Int
  aftX : Int
  innerY : Int
  outerY : Int
  coaming : Nat
  key : Byte
  mask : Byte
deriving DecidableEq, Repr

/-- A hold record (section 1.1). Staged pending is YES exactly while a staged copy is present. -/
structure Hold where
  declared : Bool
  geom : HoldGeom
  staged : Option HoldGeom
  hatchOpen : Bool
  limit : Nat
  loaded : Nat
  billed : Nat
  freeboard : Option Nat
  lockout : Option Time
deriving DecidableEq, Repr

/-- A hold record that is not declared (R1). -/
def Hold.undeclared : Hold where
  declared := false
  geom := ⟨0, 0, 0, 0, 0, 0, 0⟩
  staged := none
  hatchOpen := true
  limit := 0
  loaded := 0
  billed := 0
  freeboard := none
  lockout := none

/-- The heading of the ship (section 1.2). -/
inductive Heading where
  | bowPositive
  | bowNegative
deriving DecidableEq, Repr

/-- The ship particulars (section 1.2). Ship staged pending is YES exactly while staged values are present. -/
structure Ship where
  offset : Int
  heading : Heading
  staged : Option (Int × Heading)
  tpc : Option Nat
  loadedAtReport : Nat
  vessel : BitVec 16
deriving DecidableEq, Repr

/-- The ship particulars after reset (R4), but for the vessel code. -/
def Ship.cleared (vessel : BitVec 16) : Ship := ⟨0, .bowPositive, none, none, 0, vessel⟩

/-- The river level (section 1.4). -/
structure River where
  level : Nat
  lastValid : Time
  stale : Bool
deriving DecidableEq, Repr

/-- The suspension mask and the stack of the masks it replaced, newest first (section 1.7). -/
structure Suspension where
  mask : HoldSet
  saved : List HoldSet
deriving DecidableEq, Repr

/-! ### Order pool and pass list (chapter 2) -/

/-- The states of an order (section 2.2), in the order of the table of section 2.1 (R175). -/
inductive OrderState where
  | free
  | ready
  | active
  | done
  | short
  | stalled
  | withdrawn
deriving DecidableEq, Repr

/-- The lengthwise part of a spot. -/
inductive Along where
  | fore
  | mid
  | aft
deriving DecidableEq, Repr

/-- The crosswise part of a spot. -/
inductive Across where
  | inner
  | centre
  | outer
deriving DecidableEq, Repr

/-- How an order's most recent pour ended (section 2.1). -/
inductive LastEnd where
  | complete
  | topped
  | withdrawn
  | yield
  | fault
deriving DecidableEq, Repr

/-- The kind of a FAULT end (section 2.1). -/
inductive FaultKind where
  | axis
  | belt
  | scale
deriving DecidableEq, Repr

/-- An order record (section 2.1); its id is its slot. -/
structure Order where
  state : OrderState
  lot : Nat
  hold : Option HoldId
  target : Nat
  delivered : Nat
  inTransit : Nat
  granted : Nat
  carriedIn : Nat
  spot : Option (Along × Across)
  cont : Bool
  notify : Bool
  retryLimit : Nat
  retriesLeft : Nat
  lastEnd : Option LastEnd
  lastFault : Option FaultKind
deriving DecidableEq, Repr

/-- A FREE slot (R22). -/
def Order.free : Order where
  state := .free
  lot := 0
  hold := none
  target := 0
  delivered := 0
  inTransit := 0
  granted := 0
  carriedIn := 0
  spot := none
  cont := false
  notify := false
  retryLimit := 0
  retriesLeft := 0
  lastEnd := none
  lastFault := none

/-- The pass list in effect, the staged list and the staged pending flag (R36). -/
structure Passes where
  inEffect : Vector (List HoldId) 12
  staged : Vector (List HoldId) 12
  pendingEdit : Bool
deriving DecidableEq, Repr

/-- The pass lists after reset (R36). -/
def Passes.cleared : Passes := ⟨Vector.replicate 12 [], Vector.replicate 12 [], false⟩

/-! ### Scheduler (chapter 3) -/

/-- The states of the scheduler (section 3.2), in the order of the table of section 3.1. -/
inductive SchedState where
  | stopped
  | seeking
  | travelling
  | pouring
  | paused
  | draining
  | held
  | complete
  | halted
deriving DecidableEq, Repr

/-- Why a hold was passed over, in the order of R175. -/
inductive HeldCause where
  | closed
  | excluded
  | grade
  | carryover
  | full
  | clearance
  | blocked
  | unplanned
deriving DecidableEq, Repr

/-- The halt causes (R57). -/
inductive HaltCause where
  | estop
  | axis
  | belt
  | scaleProtocol
deriving DecidableEq, Repr

/-- The set of halt causes that stand. -/
structure HaltSet where
  estop : Bool
  axis : Bool
  belt : Bool
  scaleProtocol : Bool
deriving DecidableEq, Repr

/-- The scheduler record (section 3.1). The cursor is `pass` and `pos`, each counted from 0. -/
structure Sched where
  state : SchedState
  pass : PassId
  pos : Fin 8
  progress : Bool
  held : Vector (Option HeldCause) 8
  halts : HaltSet
  active : Option OrderId
  stepFlag : Bool
deriving DecidableEq, Repr

/-- The scheduler record after reset (R41). -/
def Sched.cleared : Sched where
  state := .stopped
  pass := 0
  pos := 0
  progress := false
  held := Vector.replicate 8 none
  halts := ⟨false, false, false, false⟩
  active := none
  stepFlag := false

/-! ### Pour record (chapter 4) -/

/-- The pause reasons, in the order of the table of section 4.1. -/
inductive PauseReason where
  | cab
  | ship
  | dust
  | manual
deriving DecidableEq, Repr

/-- The pause-reason set. -/
structure ReasonSet where
  cab : Bool
  ship : Bool
  dust : Bool
  manual : Bool
deriving DecidableEq, Repr

/-- The state a PAUSED pour returns to. -/
inductive ReturnState where
  | travelling
  | pouring
  | draining
deriving DecidableEq, Repr

/-- The cause of an orderly end (section 4.6). -/
inductive EndCause where
  | complete
  | topped
  | withdrawn
deriving DecidableEq, Repr

/-- Belt supervision (section 4.1). -/
inductive Supervision where
  | off
  | starting
  | running
deriving DecidableEq, Repr

/-- The pour record (section 4.1). -/
structure Pour where
  reasons : ReasonSet
  returnState : Option ReturnState
  manualSeen : Bool
  endCause : Option EndCause
  runLine : Bool
  supervision : Supervision
  confirmDeadline : Option Time
deriving DecidableEq, Repr

/-- The pour record after reset (R60). -/
def Pour.cleared : Pour := ⟨⟨false, false, false, false⟩, none, false, none, false, .off, none⟩

/-! ### Spout motion controller (chapter 5) -/

/-- The states of an axis (section 5.1). -/
inductive AxisState where
  | idle
  | moving
  | inpos
  | fault
deriving DecidableEq, Repr

/-- How the class of a move is chosen (section 5.1). -/
inductive MoveKind where
  | graded
  | tracking
deriving DecidableEq, Repr

/-- Why an axis last entered FAULT (section 5.1). -/
inductive AxisReason where
  | deadline
  | cls
  | drive
  | range
deriving DecidableEq, Repr

/-- An axis record (section 5.1). `target` is the target output and `commanded` the speed class output of the drive. -/
structure AxisRec where
  state : AxisState
  position : Option Int
  target : Option Int
  kind : Option MoveKind
  commanded : SpeedClass
  confirmed : SpeedClass
  classDeadline : Option Time
  moveDeadline : Option Time
  reason : Option AxisReason
deriving DecidableEq, Repr

/-- An axis record after reset (R82). -/
def AxisRec.cleared : AxisRec := ⟨.idle, none, none, none, .stop, .stop, none, none, none⟩

/-- The travel phases (section 5.1). -/
inductive Phase where
  | none
  | raise
  | traverse
  | lower
deriving DecidableEq, Repr

/-- The condition of a travel phase (section 5.1). -/
inductive TravelCond where
  | inProgress
  | clearanceWait
  | abandoned
deriving DecidableEq, Repr

/-- The record for the whole spout (section 5.1). The motion authority is MANUAL exactly while `manual` is true. -/
structure Spout where
  manual : Bool
  phase : Phase
  cond : Option TravelCond
  height : Option Int
  spotX : Option Int
  spotY : Option Int
deriving DecidableEq, Repr

/-- The spout record after reset (R82). -/
def Spout.cleared : Spout := ⟨false, .none, Option.none, Option.none, Option.none, Option.none⟩

/-! ### Weighing unit (chapter 7) -/

/-- A grant record (section 7.1). -/
structure Grant where
  batch : Nat
  order : OrderId
  lot : Nat
  hold : HoldId
  size : Nat
  choked : Bool
deriving DecidableEq, Repr

/-- The uncertified reasons, in the order of R175. -/
structure Uncertified where
  negative : Bool
  overCounts : Bool
  overKg : Bool
  unstable : Bool
  scaleFault : Bool
deriving DecidableEq, Repr

/-- The outcome of a batch report, with what an accepted one holds further (section 7.1). -/
inductive ReportOutcome where
  | accepted (order : OrderId) (lot net : Nat) (reasons : Uncertified)
  | noGrant
  | mismatch
deriving DecidableEq, Repr

/-- A report summary (section 7.1). -/
structure Report where
  batch : Nat
  gross : Nat
  tare : Nat
  outcome : ReportOutcome
deriving DecidableEq, Repr

/-- The weighing unit record (section 7.1). -/
structure Weigh where
  ready : Bool
  grant : Option Grant
  nextBatch : Nat
  last : Option Report
deriving DecidableEq, Repr

/-- The weighing unit record after reset (R119, R124). -/
def Weigh.cleared : Weigh := ⟨false, none, 1, none⟩

/-! ### Belt transit queue (chapter 8) -/

/-- A transit record (section 8.1). -/
structure Transit where
  batch : Nat
  lot : Nat
  order : OrderId
  net : Nat
  uncertified : Bool
  stamp : BitVec 32
deriving DecidableEq, Repr

/-- A spill summary (section 8.1). -/
structure Spill where
  batch : Nat
  lot : Nat
  net : Nat
  hold : HoldId
  counter : BitVec 32
deriving DecidableEq, Repr

/-- The belt transit queue, oldest record first, and what it keeps beside (section 8.1). -/
structure Belt where
  records : List Transit
  counter : BitVec 32
  lastHold : Option HoldId
  lastSpill : Option Spill
deriving DecidableEq, Repr

/-- The belt transit queue after reset (R135). -/
def Belt.cleared : Belt := ⟨[], 0, none, none⟩

/-! ### Dust monitor (chapter 9) -/

/-- The states of a channel (section 9.1). -/
inductive ChannelState where
  | normal
  | warn
  | stop
  | fault
deriving DecidableEq, Repr

/-- Why a channel stands in FAULT (section 9.1). -/
inductive ChannelReason where
  | code
  | stale
deriving DecidableEq, Repr

/-- A channel record (section 9.1); a stopped stale timer is absent. -/
structure ChannelRec where
  state : ChannelState
  up : Nat
  down : Nat
  sample : Nat
  lastArrival : Option Time
  staleAt : Option Time
  reason : Option ChannelReason
deriving DecidableEq, Repr

/-- A channel record after reset (R148). -/
def ChannelRec.cleared : ChannelRec := ⟨.normal, 0, 0, 0, none, none, none⟩

/-- The dust monitor: the channels, the beacon output and the horn, which is SOUNDING while `hornOn`. -/
structure Dust where
  channels : PerChannel ChannelRec
  beacon : Bool
  hornOn : Bool
deriving DecidableEq, Repr

/-- The dust monitor after reset (R148, R158, R159). -/
def Dust.cleared : Dust :=
  ⟨⟨.cleared, .cleared, .cleared, .cleared, .cleared, .cleared⟩, false, false⟩

/-! ### Lot accounts and bill store (chapter 10) -/

/-- The states of a lot account (section 10.2). -/
inductive LotState where
  | free
  | opened
  | closing
deriving DecidableEq, Repr

/-- A lot account (section 10.1). -/
structure Lot where
  state : LotState
  number : Nat
  shipper : Nat
  grade : Byte
  declared : Option Nat
  weighed : Nat
  uncertified : Nat
  count : Nat
  first : Option Nat
  last : Option Nat
  allocs : List (HoldId × Nat)
  drained : Bool
deriving DecidableEq, Repr

/-- A FREE slot (R161). -/
def Lot.free : Lot where
  state := .free
  number := 0
  shipper := 0
  grade := 0
  declared := none
  weighed := 0
  uncertified := 0
  count := 0
  first := none
  last := none
  allocs := []
  drained := false

/-- The flags of a bill (R169). -/
structure BillFlags where
  short : Bool
  overDeclared : Bool
  uncertified : Bool
deriving DecidableEq, Repr

/-- A bill record (R169). -/
structure Bill where
  number : Nat
  vessel : BitVec 16
  lot : Nat
  shipper : Nat
  grade : Byte
  weighed : Nat
  uncertified : Nat
  declared : Option Nat
  variance : Option Int
  count : Nat
  first : Option Nat
  last : Option Nat
  allocs : List (HoldId × Nat)
  flags : BillFlags
deriving DecidableEq, Repr

/-- The closing queue and the bill store, oldest first, and the bill number counter (sections 10.1, 10.5; R168). -/
structure Bank where
  closing : List Nat
  bills : List Bill
  nextBill : Nat
  exhausted : Bool
deriving DecidableEq, Repr

/-- The closing queue, the bill store and the counter after reset (R161, R168, R170). -/
def Bank.cleared : Bank := ⟨[], [], 1, false⟩

/-! ### Settings (chapters 5 to 9 and 11) -/

/-- The settings of a dust channel (section 9.1). -/
structure ChannelSettings where
  warnOn : Nat
  warnOff : Nat
  stopOn : Nat
  stopOff : Nat
  up : Nat
  down : Nat
  critical : Bool
deriving DecidableEq, Repr

/-- Every setting of the store. Times are in s and lengths in cm, as their tables give them. -/
structure Settings where
  lower : PerAxis Int
  upper : PerAxis Int
  timeout : PerAxis Nat
  tolerance : Nat
  fineZone : Nat
  park : Int
  travelMargin : Nat
  hatchMargin : Nat
  pourDepth : Nat
  chokeStep : Nat
  bNom : Nat
  bMin : Nat
  capKg : Nat
  capCounts : Nat
  calMul : Nat
  calDiv : Nat
  division : Nat
  pulseTravel : Nat
  beltLength : Nat
  channels : PerChannel ChannelSettings
  lockoutTime : Nat
  rates : PerPort Nat
deriving DecidableEq, Repr

/-- The default settings of a channel (section 9.1). -/
def ChannelSettings.default (critical : Bool) : ChannelSettings := ⟨100, 80, 300, 200, 3, 5, critical⟩

/-- The default of every setting (sections 5.1, 6.1, 7.1, 8.1, 9.1, 11.5). -/
def Settings.default : Settings where
  lower := ⟨-20000, 0, -500⟩
  upper := ⟨20000, 4000, 2600⟩
  timeout := ⟨300, 120, 120⟩
  tolerance := 5
  fineZone := 50
  park := 2200
  travelMargin := 120
  hatchMargin := 40
  pourDepth := 250
  chokeStep := 80
  bNom := 20000
  bMin := 500
  capKg := 25000
  capCounts := 1800000
  calMul := 923
  calDiv := 65535
  division := 10
  pulseTravel := 10
  beltLength := 18000
  channels := ⟨.default true, .default true, .default false, .default false, .default false, .default true⟩
  lockoutTime := 300
  rates := ⟨38400, 38400, 38400, 38400⟩

/-- The write condition of the store (section 11.5). -/
inductive WriteCond where
  | idle
  | writing
  | writingAgain
deriving DecidableEq, Repr

/-- The settings store (section 11.5). `copying` holds the values the copy in progress carries (notes/assumptions/16.md). -/
structure Store where
  image : Settings
  valid : Bool
  cond : WriteCond
  copying : Option Settings
deriving DecidableEq, Repr

/-! ### Port unit (chapter 11) -/

/-- The result codes, in the order of the table of R179. -/
inductive Result where
  | done
  | notPermitted
  | badField
  | state
  | full
  | empty
  | unknown
  | duplicate
  | orders
  | inTransit
  | feedOn
  | noGrant
  | mismatch
deriving DecidableEq, Repr

/-- A reply: its code byte, its result code and the items that follow the result code in its body (R174, R175). -/
structure Reply where
  code : Byte
  result : Result
  items : List Byte
deriving DecidableEq, Repr

/-- The receive condition (R176). IN_FRAME keeps the bytes gathered since the start byte and the time of the last byte. -/
inductive Receive where
  | idle
  | inFrame (got : List Byte) (last : Time)
deriving DecidableEq, Repr

/-- A port record (chapter 11). `rate` is the rate the port runs at; `rateChanges` lists rates written and not yet in effect,
oldest first, each with the number of replies still to be sent before it takes effect (R183); `sent` is the frame last
transmitted (notes/assumptions/19.md). -/
structure PortRec where
  rx : Receive
  waiting : List Reply
  flags : BitVec 16
  enables : BitVec 16
  attention : Bool
  rate : Nat
  rateChanges : List (Nat × Nat)
  sent : List Byte
deriving DecidableEq, Repr

/-- A port record after start-up, at a rate (R176, R180, R181, R185). -/
def PortRec.cleared (rate : Nat) : PortRec := ⟨.idle, [], 0, 0, false, rate, [], []⟩

/-- The levels of the input lines the controller reads (section 3.3). -/
structure Inputs where
  eStop : Bool
  driveFault : PerAxis Bool
  beltConfirm : Bool
deriving DecidableEq, Repr

/-! ### The state -/

/-- The state of the controller. `now` is the clock in ms (notes/assumptions/1.md); `inReset` says whether the reset input is
asserted (R184); `pending` is the queue of commands that wait, the next one first. -/
structure State where
  now : Time
  inReset : Bool
  inputs : Inputs
  holds : Vector Hold 8
  ship : Ship
  river : River
  suspension : Suspension
  orders : Vector Order 64
  queues : Vector (List OrderId) 8
  lastEnded : Option OrderId
  passes : Passes
  sched : Sched
  pour : Pour
  axes : PerAxis AxisRec
  spout : Spout
  weigh : Weigh
  belt : Belt
  dust : Dust
  lots : Vector Lot 16
  bank : Bank
  ports : PerPort PortRec
  settings : Settings
  store : Store
  pending : List Instr
deriving DecidableEq, Repr

/-- Every block at its reset values (R185, step 2), the ports cleared at their rates (step 3), with the clock, the input levels,
the settings in use, the store and the queue as given. -/
def State.fresh (now : Time) (inputs : Inputs) (settings : Settings) (store : Store) (pending : List Instr) : State where
  now := now
  inReset := false
  inputs := inputs
  holds := Vector.replicate 8 Hold.undeclared
  ship := Ship.cleared 0
  river := ⟨0, now, false⟩
  suspension := ⟨0, []⟩
  orders := Vector.replicate 64 Order.free
  queues := Vector.replicate 8 []
  lastEnded := none
  passes := Passes.cleared
  sched := Sched.cleared
  pour := Pour.cleared
  axes := ⟨AxisRec.cleared, AxisRec.cleared, AxisRec.cleared⟩
  spout := Spout.cleared
  weigh := Weigh.cleared
  belt := Belt.cleared
  dust := Dust.cleared
  lots := Vector.replicate 16 Lot.free
  bank := Bank.cleared
  ports := ⟨.cleared settings.rates.station, .cleared settings.rates.cab, .cleared settings.rates.ship,
    .cleared settings.rates.scale⟩
  settings := settings
  store := store
  pending := pending

/-- The machine right after reset: start-up has taken place with a VALID store that holds the defaults, every input line
deasserted and no command waiting. The store's contents and the input levels are DESIGN CHOICE, unsafe
(notes/assumptions/3.md, notes/assumptions/4.md). -/
def State.reset : State :=
  State.fresh 0 ⟨false, ⟨false, false, false⟩, false⟩ Settings.default
    ⟨Settings.default, true, .idle, none⟩ []

/-! ### Reading and replacing one record -/

/-- The record of a hold. -/
def State.hold (s : State) (h : HoldId) : Hold := s.holds[h]
/-- The state with a hold's record replaced. -/
def State.setHold (s : State) (h : HoldId) (x : Hold) : State := { s with holds := s.holds.set h x }
/-- The record of an order. -/
def State.order (s : State) (o : OrderId) : Order := s.orders[o]
/-- The state with an order's record replaced. -/
def State.setOrder (s : State) (o : OrderId) (x : Order) : State := { s with orders := s.orders.set o x }
/-- The queue of a hold, oldest first. -/
def State.queue (s : State) (h : HoldId) : List OrderId := s.queues[h]
/-- The state with a hold's queue replaced. -/
def State.setQueue (s : State) (h : HoldId) (q : List OrderId) : State := { s with queues := s.queues.set h q }
/-- The account in a lot slot. -/
def State.lot (s : State) (l : LotSlot) : Lot := s.lots[l]
/-- The state with a lot slot's account replaced. -/
def State.setLot (s : State) (l : LotSlot) (x : Lot) : State := { s with lots := s.lots.set l x }
/-- The record of an axis. -/
def State.axis (s : State) (a : Axis) : AxisRec := s.axes.get a
/-- The state with an axis's record replaced. -/
def State.setAxis (s : State) (a : Axis) (x : AxisRec) : State := { s with axes := s.axes.set a x }
/-- The record of a dust channel. -/
def State.channel (s : State) (c : Channel) : ChannelRec := s.dust.channels.get c
/-- The state with a channel's record replaced. -/
def State.setChannel (s : State) (c : Channel) (x : ChannelRec) : State :=
  { s with dust.channels := s.dust.channels.set c x }
/-- The record of a port. -/
def State.port (s : State) (p : Port) : PortRec := s.ports.get p
/-- The state with a port's record replaced. -/
def State.setPort (s : State) (p : Port) (x : PortRec) : State := { s with ports := s.ports.set p x }

/-- The faults of a step: none. Nothing the manual describes stops the controller (INVENTORY.md, Faults). -/
inductive Fault where
deriving DecidableEq, Repr

/-- The refusals of a step. -/
inductive Refusal where
  /-- Raised by an arm of `exec` whose command has no meaning yet; safe: the model stops where the controller goes on. -/
  | notModelled (mnemonic : String)
deriving DecidableEq, Repr

end Sys2Proof.Machine
end

