-- ==== Sys2Proof/Machine/Operands.lean ====
section
/-! DEFINITION. Every form an operand takes: the ranges and clamps of request fields (R2, R23, R162, R179), the named values and
lists of R175, and the byte forms of the items of a reply (R174, R175). -/

namespace Sys2Proof.Machine

/-! ### Clamps and ranges -/

/-- A signed value brought to the nearest end of its range (R179). -/
def clampInt (lo hi x : Int) : Int := if x < lo then lo else if hi < x then hi else x

/-- An unsigned value brought to the nearest end of its range (R179). -/
def clampNat (lo hi x : Nat) : Nat := if x < lo then lo else if hi < x then hi else x

/-- A whole number rounded down to a multiple of the division. -/
def roundDown (d x : Nat) : Nat := x / d * d

/-! ### Identifiers and named values (section 5.2, R175) -/

/-- A hold number 1 to 8. -/
def holdOf (b : Byte) : Option HoldId :=
  if h : 1 ≤ b.toNat ∧ b.toNat ≤ 8 then some ⟨b.toNat - 1, by omega⟩ else none

/-- An order id 1 to 64. -/
def orderOf (b : Byte) : Option OrderId :=
  if h : 1 ≤ b.toNat ∧ b.toNat ≤ 64 then some ⟨b.toNat - 1, by omega⟩ else none

/-- A pass number 1 to 12. -/
def passOf (b : Byte) : Option PassId :=
  if h : 1 ≤ b.toNat ∧ b.toNat ≤ 12 then some ⟨b.toNat - 1, by omega⟩ else none

/-- NO 0, YES 1. -/
def flagOf (b : Byte) : Option Bool :=
  match b.toNat with
  | 0 => some false
  | 1 => some true
  | _ => none

/-- BOW_POSITIVE 0, BOW_NEGATIVE 1. -/
def headingOf (b : Byte) : Option Heading :=
  match b.toNat with
  | 0 => some .bowPositive
  | 1 => some .bowNegative
  | _ => none

/-- FORE 0, MID 1, AFT 2. -/
def alongOf (b : Byte) : Option Along :=
  match b.toNat with
  | 0 => some .fore
  | 1 => some .mid
  | 2 => some .aft
  | _ => none

/-- INNER 0, CENTRE 1, OUTER 2. -/
def acrossOf (b : Byte) : Option Across :=
  match b.toNat with
  | 0 => some .inner
  | 1 => some .centre
  | 2 => some .outer
  | _ => none

/-- GANTRY 0, REACH 1, SPOUT 2. -/
def axisOf (b : Byte) : Option Axis :=
  match b.toNat with
  | 0 => some .gantry
  | 1 => some .reach
  | 2 => some .spout
  | _ => none

/-- A channel by its place in the table of section 9.1. -/
def channelOf (b : Byte) : Option Channel :=
  match b.toNat with
  | 0 => some .head
  | 1 => some .transfer
  | 2 => some .gallery
  | 3 => some .tower
  | 4 => some .apron
  | 5 => some .extract
  | _ => none

/-- A port by its place in the table of section 3.1. -/
def portOf (b : Byte) : Option Port :=
  match b.toNat with
  | 0 => some .station
  | 1 => some .cab
  | 2 => some .ship
  | 3 => some .scale
  | _ => none

/-- READY 0, NOT_READY 1. -/
def readinessOf (b : Byte) : Option Bool :=
  match b.toNat with
  | 0 => some true
  | 1 => some false
  | _ => none

/-- A list of holds: each from 1 to 8, none named twice, at least one (R18, R38); none where the list is malformed. -/
def holdListOf (bs : List Byte) : Option (List HoldId) :=
  (bs.mapM holdOf).bind fun hs => if hs ≠ [] ∧ hs.Nodup then some hs else none

/-! ### Sets of holds -/

/-- The set that names one hold. -/
def holdBit (h : HoldId) : HoldSet := 1#8 <<< h.val

/-- Whether a hold is in a set. -/
def inSet (m : HoldSet) (h : HoldId) : Bool := m.getLsbD h.val

/-- The set of the holds of a list. -/
def setOf (hs : List HoldId) : HoldSet := hs.foldl (fun m h => m ||| holdBit h) 0

/-- The set of the holds that pass a test. -/
def setWhere (f : HoldId → Bool) : HoldSet := setOf ((List.finRange 8).filter f)

/-! ### Items of a reply, as bytes (R174, R175) -/

/-- A number of 1 byte. -/
def u8 (n : Nat) : List Byte := [BitVec.ofNat 8 n]
/-- A number of 2 bytes. -/
def u16 (n : Nat) : List Byte := bytes16 (BitVec.ofNat 16 n)
/-- A number of 4 bytes. -/
def u32 (n : Nat) : List Byte := bytes32 (BitVec.ofNat 32 n)
/-- A signed number of 2 bytes. -/
def s16 (x : Int) : List Byte := bytes16 (BitVec.ofInt 16 x)
/-- A signed number of 4 bytes. -/
def s32 (x : Int) : List Byte := bytes32 (BitVec.ofInt 32 x)
/-- NO 0, YES 1. -/
def yes (b : Bool) : List Byte := u8 b.toNat
/-- A value preceded by its presence byte. -/
def opt {α : Type} (f : α → List Byte) : Option α → List Byte
  | none => [0x00]
  | some x => 0x01 :: f x
/-- A list after its count byte. -/
def list {α : Type} (f : α → List Byte) (l : List α) : List Byte := countByte l :: l.flatMap f
/-- A time in ms; one of 2^32 ms or more has no 4-byte form and is a free value (notes/assumptions/11.md). -/
def ms (t : Time) : List Byte := if t < 2 ^ 32 then u32 t else bytes32 (Config.longTime t)
/-- A deadline or an expiry, as the time remaining to it. -/
def remaining (now : Time) (deadline : Time) : List Byte := ms (deadline - now)
/-- Any other time, as the time elapsed since it. -/
def elapsed (now : Time) (t : Time) : List Byte := ms (now - t)
/-- A hold number. -/
def holdByte (h : HoldId) : List Byte := u8 (h.val + 1)
/-- An order id. -/
def orderByte (o : OrderId) : List Byte := u8 (o.val + 1)
/-- A set given by its members' bits, the first the least significant. -/
def bits (l : List Bool) : List Byte := u8 (l.foldr (fun b n => b.toNat + 2 * n) 0)
/-- A variance: sign byte and magnitude (R175). -/
def variance (x : Int) : List Byte := u8 (if x < 0 then 1 else 0) ++ u32 x.natAbs

/-- The place of a heading in its list; so for each named value below (R175). -/
def Heading.place : Heading → Nat
  | .bowPositive => 0
  | .bowNegative => 1
def OrderState.place : OrderState → Nat
  | .free => 0
  | .ready => 1
  | .active => 2
  | .done => 3
  | .short => 4
  | .stalled => 5
  | .withdrawn => 6
def Along.place : Along → Nat
  | .fore => 0
  | .mid => 1
  | .aft => 2
def Across.place : Across → Nat
  | .inner => 0
  | .centre => 1
  | .outer => 2
def LastEnd.place : LastEnd → Nat
  | .complete => 0
  | .topped => 1
  | .withdrawn => 2
  | .yield => 3
  | .fault => 4
def FaultKind.place : FaultKind → Nat
  | .axis => 0
  | .belt => 1
  | .scale => 2
def SchedState.place : SchedState → Nat
  | .stopped => 0
  | .seeking => 1
  | .travelling => 2
  | .pouring => 3
  | .paused => 4
  | .draining => 5
  | .held => 6
  | .complete => 7
  | .halted => 8
def HeldCause.place : HeldCause → Nat
  | .closed => 0
  | .excluded => 1
  | .grade => 2
  | .carryover => 3
  | .full => 4
  | .clearance => 5
  | .blocked => 6
  | .unplanned => 7
def ReturnState.place : ReturnState → Nat
  | .travelling => 0
  | .pouring => 1
  | .draining => 2
def EndCause.place : EndCause → Nat
  | .complete => 0
  | .topped => 1
  | .withdrawn => 2
def Supervision.place : Supervision → Nat
  | .off => 0
  | .starting => 1
  | .running => 2
def AxisState.place : AxisState → Nat
  | .idle => 0
  | .moving => 1
  | .inpos => 2
  | .fault => 3
def MoveKind.place : MoveKind → Nat
  | .graded => 0
  | .tracking => 1
def classPlace : SpeedClass → Nat
  | .stop => 0
  | .fine => 1
  | .fast => 2
def AxisReason.place : AxisReason → Nat
  | .deadline => 0
  | .cls => 1
  | .drive => 2
  | .range => 3
def Phase.place : Phase → Nat
  | .none => 0
  | .raise => 1
  | .traverse => 2
  | .lower => 3
def TravelCond.place : TravelCond → Nat
  | .inProgress => 0
  | .clearanceWait => 1
  | .abandoned => 2
def ChannelState.place : ChannelState → Nat
  | .normal => 0
  | .warn => 1
  | .stop => 2
  | .fault => 3
def ChannelReason.place : ChannelReason → Nat
  | .code => 0
  | .stale => 1
def LotState.place : LotState → Nat
  | .free => 0
  | .opened => 1
  | .closing => 2
def WriteCond.place : WriteCond → Nat
  | .idle => 0
  | .writing => 1
  | .writingAgain => 2
def Result.place : Result → Nat
  | .done => 0
  | .notPermitted => 1
  | .badField => 2
  | .state => 3
  | .full => 4
  | .empty => 5
  | .unknown => 6
  | .duplicate => 7
  | .orders => 8
  | .inTransit => 9
  | .feedOn => 10
  | .noGrant => 11
  | .mismatch => 12

/-- The pause-reason set as its byte. -/
def ReasonSet.byte (r : ReasonSet) : List Byte := bits [r.cab, r.ship, r.dust, r.manual]
/-- The halt causes as their byte. -/
def HaltSet.byte (c : HaltSet) : List Byte := bits [c.estop, c.axis, c.belt, c.scaleProtocol]
/-- The uncertified reasons as their byte. -/
def Uncertified.byte (u : Uncertified) : List Byte :=
  bits [u.negative, u.overCounts, u.overKg, u.unstable, u.scaleFault]
/-- The flags of a bill as their byte. -/
def BillFlags.byte (f : BillFlags) : List Byte := bits [f.short, f.overDeclared, f.uncertified]

/-- The frame of a reply: the result code is the first byte of its body (R174). -/
def Reply.frame (r : Reply) : List Byte := frameBytes r.code (BitVec.ofNat 8 r.result.place :: r.items)

end Sys2Proof.Machine
end

