-- ==== Sys2Proof/Machine/Flags.lean ====
section
/-! DEFINITION. The event flags and the attention lines (section 11.3). -/

namespace Sys2Proof.Machine

/-- The eleven event flags, in the order of the table of section 11.3. -/
inductive EventFlag where
  | schedule
  | orderEnd
  | maskChanged
  | dust
  | billReady
  | axisFault
  | levelStale
  | levelFault
  | spill
  | scaleAlert
  | settingsDefault
deriving DecidableEq, Repr

/-- The bit of a flag in a set of flags (R175). -/
def EventFlag.bit : EventFlag → BitVec 16
  | .schedule => 0x0001
  | .orderEnd => 0x0002
  | .maskChanged => 0x0004
  | .dust => 0x0008
  | .billReady => 0x0010
  | .axisFault => 0x0020
  | .levelStale => 0x0040
  | .levelFault => 0x0080
  | .spill => 0x0100
  | .scaleAlert => 0x0200
  | .settingsDefault => 0x0400

/-- The set of all eleven flags. -/
def allFlags : BitVec 16 := 0x07FF

/-- The attention line set anew: asserted while the flags and the enables have a flag in common (R181). -/
def PortRec.refresh (r : PortRec) : PortRec := { r with attention := (r.flags &&& r.enables) != 0 }

/-- A port record whose flag set becomes the one given, its attention line set anew (R180, R181). -/
def PortRec.withFlags (r : PortRec) (flags : BitVec 16) : PortRec := { r with flags := flags }.refresh

/-- A port record whose enables become the set given, its attention line set anew (R181). -/
def PortRec.withEnables (r : PortRec) (enables : BitVec 16) : PortRec := { r with enables := enables }.refresh

/-- Raises a flag: it becomes set on each of the four ports (R180). -/
def raise (f : EventFlag) (s : State) : State :=
  { s with ports := s.ports.map fun r => r.withFlags (r.flags ||| f.bit) }

end Sys2Proof.Machine
end

