-- ==== Sys2Proof/Machine/Figures.lean ====
section
/-! DEFINITION. What the blocks compute from the state and do not store: the exclusion set, room and FULL (chapter 1), remaining
tonnage (chapter 2), hatch openings and spots (R5, R91), the heights of chapter 6, the choke and effective levels (chapter 9),
the clear test (R72). -/

namespace Sys2Proof.Machine

/-- A vessel is open while the vessel code is not 0 (section 1.2). -/
def State.vesselOpen (s : State) : Bool := s.ship.vessel != 0

/-! ### Scheduler states -/

/-- TRAVELLING, POURING, PAUSED and DRAINING (section 3.2). -/
def SchedState.isPour : SchedState → Bool
  | .travelling | .pouring | .paused | .draining => true
  | .stopped | .seeking | .held | .complete | .halted => false

/-- STOPPED, HELD, COMPLETE and HALTED, whose entry and departure raise SCHEDULE (R59). -/
def SchedState.resting : SchedState → Bool
  | .stopped | .held | .complete | .halted => true
  | .seeking | .travelling | .pouring | .paused | .draining => false

/-- The order whose pour is in progress: the active order, in a pour state. -/
def State.pourOrder (s : State) : Option OrderId := if s.sched.state.isPour then s.sched.active else none

/-- The hold of the order whose pour is in progress. -/
def State.pourHold (s : State) : Option HoldId := s.pourOrder.bind fun o => (s.order o).hold

/-- The scheduler is DRAINING, or PAUSED with return state DRAINING. -/
def State.isDraining (s : State) : Bool :=
  s.sched.state == .draining || (s.sched.state == .paused && s.pour.returnState == some .draining)

/-- The scheduler is TRAVELLING, or PAUSED with return state TRAVELLING. -/
def State.isTravelling (s : State) : Bool :=
  s.sched.state == .travelling || (s.sched.state == .paused && s.pour.returnState == some .travelling)

/-! ### Holds -/

/-- The exclusion set: suspended, locked out, or declared with the hatch CLOSED (R20). -/
def State.exclusion (s : State) : HoldSet :=
  s.suspension.mask ||| setWhere fun h =>
    (s.hold h).lockout.isSome || ((s.hold h).declared && !(s.hold h).hatchOpen)

/-- The net of the transit records that pass a test. -/
def netWhere (f : Transit → Bool) (rs : List Transit) : Nat := ((rs.filter f).map Transit.net).sum

/-- committed_kg of a hold: loaded, on the belt for its orders, and granted to its orders (R13). -/
def State.committed (s : State) (h : HoldId) : Nat :=
  (s.hold h).loaded + netWhere (fun t => (s.order t.order).hold == some h) s.belt.records +
    match s.weigh.grant with
    | some g => if (s.order g.order).hold == some h then g.size else 0
    | none => 0

/-- The room of a hold: its limit less its committed tonnage, 0 when negative (R13). -/
def State.room (s : State) (h : HoldId) : Nat := (s.hold h).limit - s.committed h

/-- A hold is FULL while its room is less than B_min (R13). -/
def State.isFull (s : State) (h : HoldId) : Bool := s.room h < s.settings.bMin

/-- The total loaded L: the sum over the declared holds (R12). -/
def State.totalLoaded (s : State) : Nat :=
  ((List.finRange 8).map fun h => if (s.hold h).declared then (s.hold h).loaded else 0).sum

/-- The remaining tonnage of an order, 0 when negative (section 2.1). -/
def Order.remaining (r : Order) : Nat := r.target - r.delivered - r.inTransit

/-- A visit order has a target of 0 kg (section 2.1). -/
def Order.isVisit (r : Order) : Bool := r.target == 0

/-- The belt is clear: no transit record and no grant outstanding (R72). -/
def State.beltClear (s : State) : Bool := s.belt.records.isEmpty && s.weigh.grant.isNone

/-- The slot of the account that carries a lot number and is not FREE (R161). -/
def State.lotSlot (s : State) (number : Nat) : Option LotSlot :=
  (List.finRange 16).find? fun l => (s.lot l).state != .free && (s.lot l).number == number

/-- The grade code of a lot that has an account. -/
def State.gradeOf (s : State) (number : Nat) : Option Byte := (s.lotSlot number).map fun l => (s.lot l).grade

/-- The grade test of a hold: key and grade agree in every bit the mask marks (section 1.1, R50). -/
def gradePasses (g : HoldGeom) (grade : Byte) : Bool := (grade ^^^ g.key) &&& g.mask == 0

/-- The grade test of a hold applied to a lot; a lot without an account fails it. -/
def State.lotPasses (s : State) (h : HoldId) (number : Nat) : Bool :=
  match s.gradeOf number with
  | some grade => gradePasses (s.hold h).geom grade
  | none => false

/-! ### Hatches and spots -/

/-- Ship x converted to quay X through the in-effect offset and heading (R5). -/
def State.quayX (s : State) (x : Int) : Int :=
  match s.ship.heading with
  | .bowPositive => s.ship.offset - x
  | .bowNegative => s.ship.offset + x

/-- The quay-X span of a hold, lower value first (R5). -/
def State.span (s : State) (h : HoldId) : Int × Int :=
  (min (s.quayX (s.hold h).geom.foreX) (s.quayX (s.hold h).geom.aftX),
    max (s.quayX (s.hold h).geom.foreX) (s.quayX (s.hold h).geom.aftX))

/-- The quay-X interval of a hold's hatch opening (R5). -/
def State.openingX (s : State) (h : HoldId) : Int × Int :=
  ((s.span h).1 + s.settings.hatchMargin, (s.span h).2 - s.settings.hatchMargin)

/-- The Y interval of a hold's hatch opening (R5). -/
def State.openingY (s : State) (h : HoldId) : Int × Int :=
  ((s.hold h).geom.innerY + s.settings.hatchMargin, (s.hold h).geom.outerY - s.settings.hatchMargin)

/-- A point lies in a closed interval. -/
def within (i : Int × Int) (x : Int) : Bool := i.1 ≤ x && x ≤ i.2

/-- A point lies inside the hatch opening of a declared hold (R1, R5). -/
def State.inOpening (s : State) (h : HoldId) (x y : Int) : Bool :=
  (s.hold h).declared && within (s.openingX h) x && within (s.openingY h) y

/-- The GANTRY and REACH positions lie inside the hatch opening of a hold; an absent position lies in none (R63, R83). -/
def State.overHold (s : State) (h : HoldId) : Bool :=
  match s.axes.gantry.position, s.axes.reach.position with
  | some x, some y => s.inOpening h x y
  | _, _ => false

/-- The lowest-numbered hold the spout is over (R105, R139). -/
def State.holdUnder (s : State) : Option HoldId := (List.finRange 8).find? s.overHold

/-- A sixth of a width, times 1, 3 or 5, its remainder discarded (R91). -/
def spotPart (lo hi k : Int) : Int := lo + (hi - lo) * k / 6

/-- The multiplier of a lengthwise part (R91). -/
def Along.sixths : Along → Int
  | .fore => 1
  | .mid => 3
  | .aft => 5

/-- The multiplier of a crosswise part (R91). -/
def Across.sixths : Across → Int
  | .inner => 1
  | .centre => 3
  | .outer => 5

/-- Spot X of a place in a hold's hatch (R91). -/
def State.spotX (s : State) (h : HoldId) (al : Along) : Int :=
  s.quayX (spotPart (s.hold h).geom.foreX (s.hold h).geom.aftX al.sixths)

/-- Spot Y of a place in a hold's hatch (R91). -/
def State.spotY (s : State) (h : HoldId) (ac : Across) : Int :=
  spotPart (s.hold h).geom.innerY (s.hold h).geom.outerY ac.sixths

/-! ### Dust levels and the choke (sections 9.3, 9.5) -/

/-- The effective levels of a channel. -/
inductive Level where
  | normal
  | warn
  | stop
deriving DecidableEq, Repr

/-- The effective level of a channel state under a critical flag (R153). -/
def effective (critical : Bool) : ChannelState → Level
  | .normal => .normal
  | .warn => .warn
  | .stop => .stop
  | .fault => if critical then .stop else .warn

/-- The effective level of a channel (R153). -/
def State.level (s : State) (c : Channel) : Level :=
  effective (s.settings.channels.get c).critical (s.channel c).state

/-- The choke applies while the effective level of HEAD is WARN (R156). -/
def State.choke (s : State) : Bool := s.level .head == .warn

/-! ### Sinkage, elevations and heights (chapter 6) -/

/-- The sinkage S (R109). -/
def State.sinkage (s : State) : Nat :=
  match s.ship.tpc with
  | none => 0
  | some tpc => (s.totalLoaded - s.ship.loadedAtReport) / tpc

/-- The freeboard estimate FB of a hold (R110). -/
def State.freeboard (s : State) (h : HoldId) : Nat := (s.hold h).freeboard.getD 0 - s.sinkage

/-- The deck elevation of a hold (R111). -/
def State.deck (s : State) (h : HoldId) : Nat := s.river.level + s.freeboard h

/-- The coaming-top elevation of a hold (R111). -/
def State.top (s : State) (h : HoldId) : Nat := s.deck h + (s.hold h).geom.coaming

/-- A hold counts for a move when its reach and the move's interval meet (R113). -/
def State.counts (s : State) (move : Int × Int) (h : HoldId) : Bool :=
  (s.hold h).declared && (s.span h).1 - s.settings.hatchMargin ≤ move.2 &&
    move.1 ≤ (s.span h).2 + s.settings.hatchMargin

/-- The interval of a move from the present GANTRY position; the whole quay range when that is absent (R113). A declared hold whose
reach lies wholly beyond that range does not count then, though R83 says that every declared hold meets the move: DESIGN CHOICE,
unsafe (notes/assumptions/37.md). -/
def State.moveFromGantry (s : State) (target : Int) : Int × Int :=
  match s.axes.gantry.position with
  | some x => (min x target, max x target)
  | none => (Config.quayLow, Config.quayHigh)

/-- The interval of the place where the spout stands (R113); with the GANTRY position absent as `moveFromGantry` has it
(notes/assumptions/37.md). -/
def State.moveInPlace (s : State) : Int × Int :=
  match s.axes.gantry.position with
  | some x => (x, x)
  | none => (Config.quayLow, Config.quayHigh)

/-- The travel height of a move (R114). -/
def State.travelHeight (s : State) (move : Int × Int) : Int :=
  match (List.finRange 8).filter (s.counts move) with
  | [] => s.settings.park
  | h :: hs => ((hs.foldl (fun m k => max m (s.top k)) (s.top h) + s.settings.travelMargin : Nat) : Int)

/-- A move is feasible when its travel height is at or below the SPOUT upper limit (R116). -/
def State.feasible (s : State) (move : Int × Int) : Bool := s.travelHeight move ≤ s.settings.upper.spout

/-- The pour height of a hold (R115). -/
def State.pourHeight (s : State) (h : HoldId) : Int :=
  clampInt s.settings.lower.spout s.settings.upper.spout
    ((s.top h : Int) - s.settings.pourDepth - (if s.choke then s.settings.chokeStep else 0))

/-- The SPOUT position is present and at or above a height; an absent position is below every height (R83). -/
def State.spoutAtOrAbove (s : State) (height : Int) : Bool :=
  match s.axes.spout.position with
  | some z => height ≤ z
  | none => false

end Sys2Proof.Machine
end

