-- ==== Sys2Proof/Machine/Axes.lean ====
section
/-! DEFINITION. Moves, speed classes and stops of the axes (section 5.2). -/

namespace Sys2Proof.Machine

/-- An axis commanded a class: the class deadline runs while the class is not the confirmed one (R86). -/
def AxisRec.command (now : Time) (c : SpeedClass) (r : AxisRec) : AxisRec :=
  { r with
    commanded := c
    classDeadline := if c = r.confirmed then none else some (now + Config.classTimeout) }

/-- The position is present and within the in-position tolerance of a target (R84, R85). -/
def AxisRec.near (tolerance : Nat) (r : AxisRec) (target : Int) : Bool :=
  match r.position with
  | some x => (x - target).natAbs ≤ tolerance
  | none => false

/-- The class of a move on the way (R84): FINE for TRACKING and for an absent position; graded by the fine zone otherwise. -/
def AxisRec.grade (fineZone : Nat) (kind : MoveKind) (target : Int) (r : AxisRec) : SpeedClass :=
  match kind, r.position with
  | .graded, some x => if fineZone < (x - target).natAbs then .fast else .fine
  | .graded, none => .fine
  | .tracking, _ => .fine

/-- The axis in position: INPOS, commanded STOP, no move deadline (R84, R85). -/
def AxisRec.arrive (now : Time) (r : AxisRec) : AxisRec :=
  { AxisRec.command now .stop r with state := .inpos, moveDeadline := none }

/-- A move as R84 begins it on an axis that is not in FAULT: the target clamped into the axis's limits, the kind written, INPOS
at once within tolerance, MOVING with a move deadline and a class otherwise. -/
def AxisRec.move (now : Time) (tolerance fineZone : Nat) (lower upper : Int) (timeout : Nat) (kind : MoveKind)
    (target : Int) (r : AxisRec) : AxisRec :=
  let goal := clampInt lower upper target
  let aimed := { r with target := some goal, kind := some kind }
  if aimed.near tolerance goal then aimed.arrive now
  else
    { AxisRec.command now (aimed.grade fineZone kind goal) aimed with
      state := .moving, moveDeadline := some (now + timeout * 1000) }

/-- A move commanded to an axis (R84): nothing while the axis is in FAULT (R87) or the emergency stop input is asserted (R79). -/
def moveAxis (a : Axis) (kind : MoveKind) (target : Int) (s : State) : State :=
  if (s.axis a).state = .fault ∨ s.inputs.eStop then s
  else
    s.setAxis a ((s.axis a).move s.now s.settings.tolerance s.settings.fineZone (s.settings.lower.get a)
      (s.settings.upper.get a) (s.settings.timeout.get a) kind target)

/-- A stop as R89 carries it out: a MOVING axis becomes IDLE, commanded STOP, its target, kind and move deadline absent. -/
def AxisRec.halt (now : Time) (r : AxisRec) : AxisRec :=
  match r.state with
  | .moving => { AxisRec.command now .stop r with state := .idle, target := none, kind := none, moveDeadline := none }
  | .idle | .inpos | .fault => r

/-- All three axes commanded STOP (R89). -/
def stopAxes (s : State) : State := { s with axes := s.axes.map (AxisRec.halt s.now) }

/-- An arrival applied to a move (R85). -/
def AxisRec.advance (now : Time) (tolerance fineZone : Nat) (r : AxisRec) : AxisRec :=
  match r.state, r.target, r.kind with
  | .moving, some target, some kind =>
    if r.near tolerance target then r.arrive now
    else
      match kind with
      | .graded =>
        if r.grade fineZone .graded target = r.commanded then r
        else AxisRec.command now (r.grade fineZone .graded target) r
      | .tracking => r
  | _, _, _ => r

/-- The record of an axis that enters FAULT (R87): commanded STOP, no deadline, the target kept. -/
def AxisRec.fail (reason : AxisReason) (r : AxisRec) : AxisRec :=
  { r with
    state := .fault, reason := some reason, commanded := .stop, classDeadline := none, moveDeadline := none }

/-- The record of an axis that leaves FAULT (R87). -/
def AxisRec.clear (now : Time) (r : AxisRec) : AxisRec :=
  AxisRec.command now .stop
    { r with state := .idle, target := none, kind := none, moveDeadline := none, reason := none }

/-- A class arrival (R86); in FAULT it only updates the confirmed class. -/
def AxisRec.confirm (now : Time) (c : SpeedClass) (r : AxisRec) : AxisRec :=
  let t := { r with confirmed := c }
  match r.state with
  | .fault => t
  | .idle | .moving | .inpos =>
    { t with
      classDeadline :=
        if c = r.commanded then none
        else some (r.classDeadline.getD (now + Config.classTimeout)) }

/-- Some axis is in FAULT (R90). -/
def State.axisFault (s : State) : Bool :=
  s.axes.gantry.state == .fault || s.axes.reach.state == .fault || s.axes.spout.state == .fault

end Sys2Proof.Machine
end

