-- ==== Sys2Proof/Machine/Travel.lean ====
section
/-! DEFINITION. The travel phases RAISE, TRAVERSE and LOWER, their recomputes and tracking (sections 5.3, 5.4). A function that may
complete the travel answers the state and whether the spout motion controller reports the travel complete; the pour interlock acts
on the report (Machine/Pour.lean). -/

namespace Sys2Proof.Machine

/-- The travel complete: phase NONE, condition and travel height absent (R96). -/
def travelOver (s : State) : State :=
  { s with spout.phase := .none, spout.cond := none, spout.height := none }

/-- LOWER completes when the SPOUT is INPOS (R96). -/
def checkLower (s : State) : State × Bool :=
  if s.axes.spout.state = .inpos then (travelOver s, true) else (s, false)

/-- A GRADED move of the SPOUT to the pour height of the active order's hold. -/
def lowerMove (s : State) : State :=
  match s.pourHold with
  | some h => moveAxis .spout .graded (s.pourHeight h) s
  | none => s

/-- LOWER begins (R96). -/
def beginLower (s : State) : State × Bool :=
  checkLower (lowerMove { s with spout.phase := .lower, spout.cond := some .inProgress })

/-- TRAVERSE completes when GANTRY and REACH are both INPOS, and LOWER then begins (R94). -/
def checkTraverse (s : State) : State × Bool :=
  if s.axes.gantry.state = .inpos ∧ s.axes.reach.state = .inpos then beginLower s else (s, false)

/-- A GRADED move of an axis to a coordinate that is present. -/
def moveTo (a : Axis) (target : Option Int) (s : State) : State :=
  match target with
  | some x => moveAxis a .graded x s
  | none => s

/-- TRAVERSE begins: GANTRY to spot X and REACH to spot Y (R94). -/
def beginTraverse (s : State) : State × Bool :=
  let t := { s with spout.phase := .traverse, spout.cond := some .inProgress }
  checkTraverse (moveTo .reach s.spout.spotY (moveTo .gantry s.spout.spotX t))

/-- The travel height of the move from the present GANTRY position to spot X (R92). -/
def State.heightToSpot (s : State) : Int :=
  match s.spout.spotX with
  | some x => s.travelHeight (s.moveFromGantry x)
  | none => s.settings.park

/-- The travel height computed again and written as the travel height in use (R92, R93, R95, R97). -/
def writeHeight (s : State) : State := { s with spout.height := some s.heightToSpot }

/-- The SPOUT stands at or above the travel height in use. -/
def State.spoutClear (s : State) : Bool :=
  match s.spout.height with
  | some z => s.spoutAtOrAbove z
  | none => false

/-- The raise target: the travel height plus the tolerance, at most the SPOUT upper limit (R92). -/
def State.raiseTarget (s : State) : Int :=
  min (s.spout.height.getD s.settings.park + s.settings.tolerance) s.settings.upper.spout

/-- RAISE completes when the SPOUT is INPOS at or above the travel height in use; INPOS below it is CLEARANCE_WAIT (R93). -/
def checkRaise (s : State) : State × Bool :=
  if s.axes.spout.state = .inpos then
    if s.spoutClear then beginTraverse s else ({ s with spout.cond := some .clearanceWait }, false)
  else (s, false)

/-- The SPOUT given a GRADED move to the raise target (R92). -/
def raiseMove (s : State) : State × Bool :=
  checkRaise (moveAxis .spout .graded s.raiseTarget { s with spout.cond := some .inProgress })

/-- RAISE begins: it is skipped when the SPOUT already stands at or above the travel height (R92). -/
def beginRaise (s : State) : State × Bool :=
  let t := writeHeight { s with spout.phase := .raise, spout.cond := some .inProgress }
  if t.spoutClear then beginTraverse t else raiseMove t

/-- The RAISE taken up again, in progress or waiting (R93, R97): complete when the SPOUT stands high enough; a GRADED move where
the raise target is no longer the SPOUT's target. A SPOUT that is still MOVING where the RAISE completes goes on to its old target
through TRAVERSE: DESIGN CHOICE, unsafe (notes/assumptions/36.md). -/
def retakeRaise (s : State) : State × Bool :=
  let t := writeHeight s
  if t.spoutClear then beginTraverse t
  else if some t.raiseTarget = t.axes.spout.target then (t, false)
  else raiseMove t

/-- GANTRY and REACH commanded STOP as R89 states (R95). -/
def stopTraverse (s : State) : State :=
  { s with axes.gantry := s.axes.gantry.halt s.now, axes.reach := s.axes.reach.halt s.now }

/-- The check of the travel height during TRAVERSE, with the drop back (R95). -/
def checkHeight (s : State) : State × Bool :=
  let t := writeHeight s
  if t.spoutClear then (t, false) else beginRaise (stopTraverse t)

/-- The pour height taken anew during LOWER (R97). -/
def retakeLower (s : State) : State × Bool :=
  match s.pourHold with
  | some h => if some (s.pourHeight h) = s.axes.spout.target then (s, false) else checkLower (lowerMove s)
  | none => (s, false)

/-- The SPOUT given a TRACKING move to the pour height, in POURING and DRAINING (R100). -/
def track (s : State) : State :=
  if s.sched.state = .pouring ∨ s.sched.state = .draining then
    match s.pourHold with
    | some h => moveAxis .spout .tracking (s.pourHeight h) s
    | none => s
  else s

/-- A clearance recompute event for the travel in hand (R97); a change of the choke is acted on in LOWER and in tracking alone. -/
def recomputeTravel (chokeOnly : Bool) (s : State) : State × Bool :=
  match s.spout.phase, s.spout.cond with
  | .raise, some .inProgress | .raise, some .clearanceWait => if chokeOnly then (s, false) else retakeRaise s
  | .traverse, some .inProgress => if chokeOnly then (s, false) else checkHeight s
  | .lower, some .inProgress => retakeLower s
  | _, _ => (track s, false)

/-- The travel after a SPOUT position arrival (R93, R95, R96). -/
def spoutArrived (s : State) : State × Bool :=
  match s.spout.phase, s.spout.cond with
  | .raise, some .inProgress => checkRaise s
  | .raise, some .clearanceWait => retakeRaise s
  | .traverse, some .inProgress => checkHeight s
  | .lower, some .inProgress => checkLower s
  | _, _ => (s, false)

/-- The travel after a GANTRY or REACH position arrival (R94). -/
def traverseArrived (s : State) : State × Bool :=
  match s.spout.phase, s.spout.cond with
  | .traverse, some .inProgress => checkTraverse s
  | _, _ => (s, false)

/-- An abandoned travel restarts (R99): from RAISE after a pause that included MANUAL, else from the beginning of its phase. -/
def restartTravel (manualSeen : Bool) (s : State) : State × Bool :=
  if manualSeen then beginRaise s
  else
    match s.spout.phase with
    | .traverse =>
      let t := writeHeight s
      if t.spoutClear then beginTraverse t else beginRaise s
    | .lower => beginLower s
    | .raise | .none => beginRaise s

/-- The end of a travel: phase NONE; condition, travel height and spot absent (R90, R98). -/
def endTravel (s : State) : State :=
  { s with spout := { Spout.cleared with manual := s.spout.manual } }

/-- A travel phase in progress is abandoned; the phase is kept (R98). -/
def abandonTravel (s : State) : State :=
  match s.spout.phase with
  | .none => s
  | .raise | .traverse | .lower => { s with spout.cond := some .abandoned }

end Sys2Proof.Machine
end

