-- ==== Sys2Proof/Machine/Ops.lean ====
section
/-! DEFINITION. The operations several commands share: the scheduler's transitions (chapter 3), the commits (R8, R37), the belt run
line (R63, R64), the ends of a pour (R27 to R29, R54, R72 to R76), activation (R52, R61, R90), pause reasons (R67 to R70), faults of
an axis (R87), changes of the exclusion set (R20, R21). -/

namespace Sys2Proof.Machine

/-! ### The scheduler's transitions -/

/-- The scheduler enters a state; SCHEDULE is raised when it enters or leaves a resting state (R59). -/
def enterState (st : SchedState) (s : State) : State :=
  let t := { s with sched.state := st }
  if st ≠ s.sched.state ∧ (st.resting ∨ s.sched.state.resting) then raise .schedule t else t

/-- Every entry of the held-cause table becomes absent. -/
def clearHeld (s : State) : State := { s with sched.held := Vector.replicate 8 none }

/-- The chain of a pass in the list in effect. -/
def State.chain (s : State) (n : PassId) : List HoldId := s.passes.inEffect[n]

/-- A pending staged pass list is copied into the list in effect (R37). -/
def commitPasses (s : State) : State :=
  if s.passes.pendingEdit then
    { s with passes := ⟨s.passes.staged, s.passes.staged, false⟩ }
  else s

/-- A round starts: the staged pass list is committed, the cursor goes to pass 1 position 1, the progress flag becomes CLEAR and
the held-cause table is emptied, in this order (R46). -/
def startRound (s : State) : State :=
  clearHeld { commitPasses s with sched.pass := 0, sched.pos := 0, sched.progress := false }

/-- A wake event: HELD or COMPLETE enters SEEKING with a new round (R56); SEEKING sets the progress flag (R47). -/
def wake (s : State) : State :=
  match s.sched.state with
  | .held | .complete => startRound (enterState .seeking s)
  | .seeking => { s with sched.progress := true }
  | .stopped | .halted | .travelling | .pouring | .paused | .draining => s

/-- The scheduler enters SEEKING and resumes the walk at the cursor: a round starts at pass 1 position 1, elsewhere the progress
flag becomes SET (R42). -/
def resumeWalk (s : State) : State :=
  let t := enterState .seeking s
  if t.sched.pass = 0 ∧ t.sched.pos = 0 then startRound t else { t with sched.progress := true }

/-- A hold appears in some chain of the list in effect. -/
def State.planned (s : State) (h : HoldId) : Bool :=
  (List.finRange 12).any fun n => (s.chain n).contains h

/-- The held-cause table on entry into HELD: absent for an empty queue, UNPLANNED for a hold in no chain, else as found (R53). -/
def State.heldOnRest (s : State) : Vector (Option HeldCause) 8 :=
  tabulate fun h =>
    if (s.queue h).isEmpty then none
    else if s.planned h then s.sched.held[h]
    else some .unplanned

/-- The round ends in SEEKING (R53). -/
def endRound (s : State) : State :=
  if s.sched.progress then startRound s
  else
    let t := { s with sched.held := s.heldOnRest }
    if (List.finRange 8).all fun h => (s.queue h).isEmpty then enterState .complete t else enterState .held t

/-- The position after the cursor: the next of the chain, or position 1 of the next pass whose chain is not empty, or none when
the round ends (R45). -/
def State.nextPosition (s : State) : Option (PassId × Fin 8) :=
  if h : s.sched.pos.val + 1 < 8 ∧ s.sched.pos.val + 1 < (s.chain s.sched.pass).length then
    some (s.sched.pass, ⟨s.sched.pos.val + 1, h.1⟩)
  else
    ((List.finRange 12).find? fun n => s.sched.pass < n && !(s.chain n).isEmpty).map fun n => (n, 0)

/-- The cursor moved on, to pass 1 position 1 at the end of a round (R45). -/
def moveCursor (s : State) : State :=
  match s.nextPosition with
  | some (n, k) => { s with sched.pass := n, sched.pos := k }
  | none => { s with sched.pass := 0, sched.pos := 0 }

/-- The cursor moved on in SEEKING; the end of the round is acted on (R45, R53). -/
def moveOn (s : State) : State :=
  if s.nextPosition.isSome then moveCursor s else endRound (moveCursor s)

/-- A halt cause stands in a set. -/
def HaltSet.has (c : HaltSet) : HaltCause → Bool
  | .estop => c.estop
  | .axis => c.axis
  | .belt => c.belt
  | .scaleProtocol => c.scaleProtocol

/-- A halt cause joins a set. -/
def HaltSet.add (c : HaltSet) : HaltCause → HaltSet
  | .estop => { c with estop := true }
  | .axis => { c with axis := true }
  | .belt => { c with belt := true }
  | .scaleProtocol => { c with scaleProtocol := true }

/-- A halt cause arises (R57): it is not recorded while no vessel is open; SCHEDULE is raised when it is added in HALTED (R59). -/
def raiseHalt (c : HaltCause) (s : State) : State :=
  if !s.vesselOpen then s
  else
    let t := { s with sched.halts := s.sched.halts.add c }
    if s.sched.state = .halted then
      if s.sched.halts.has c then s else raise .schedule t
    else enterState .halted (clearHeld { t with sched.active := none, sched.stepFlag := false })

/-! ### Staged amendments (R8) -/

/-- A hold record whose staged copy, if one is pending, takes effect. -/
def Hold.commit (r : Hold) : Hold :=
  match r.staged with
  | some g => { r with geom := g, staged := none }
  | none => r

/-- The ship particulars whose staged values, if pending, take effect. -/
def Ship.commit (r : Ship) : Ship :=
  match r.staged with
  | some (offset, heading) => { r with offset := offset, heading := heading, staged := none }
  | none => r

/-- Whether the pending amendments change an in-effect value. -/
def State.amendmentsChange (s : State) : Bool :=
  ((List.finRange 8).any fun h => (s.hold h).geom != (s.hold h).commit.geom) ||
    s.ship.offset != s.ship.commit.offset || s.ship.heading != s.ship.commit.heading

/-- Every pending amendment committed together; a change of an in-effect value is a wake event (R8, R56). -/
def commitAmendments (s : State) : State :=
  let t := { s with holds := tabulate fun h => (s.hold h).commit, ship := s.ship.commit }
  if s.amendmentsChange then wake t else t

/-- The boundary test after an amendment is staged: outside the pour states it is committed at once (R8). -/
def boundaryTest (s : State) : State :=
  if s.sched.state.isPour then s else commitAmendments s

/-! ### The belt run line and its supervision (R63, R64) -/

/-- The two conditions of the belt run line (R63). -/
def State.runWanted (s : State) : Bool :=
  (s.sched.state == .pouring || s.sched.state == .draining) &&
    match s.pourHold with
    | some h => s.overHold h
    | none => false

/-- The belt run line set anew, with the supervision that follows it (R63, R64). -/
def setRunLine (s : State) : State :=
  if s.runWanted then
    if s.pour.runLine then s
    else if s.inputs.beltConfirm then
      { s with pour.runLine := true, pour.supervision := .running, pour.confirmDeadline := none }
    else
      { s with
        pour.runLine := true, pour.supervision := .starting,
        pour.confirmDeadline := some (s.now + Config.confirmTimeout) }
  else { s with pour.runLine := false, pour.supervision := .off, pour.confirmDeadline := none }

/-! ### The order pool records ends (R27 to R30) -/

/-- ORDER_END is raised and the id recorded as the last-ended id (R30). -/
def endOrder (o : OrderId) (s : State) : State := raise .orderEnd { s with lastEnded := some o }

/-- ORDER_END for an order whose notify flag is YES (R30). -/
def notifyEnd (o : OrderId) (s : State) : State := if (s.order o).notify then endOrder o s else s

/-- An order's id removed from the queue of its hold (R25). -/
def dequeue (o : OrderId) (s : State) : State :=
  match (s.order o).hold with
  | some h => s.setQueue h ((s.queue h).filter (· != o))
  | none => s

/-- The state an orderly end gives an order (R27). -/
def EndCause.finished : EndCause → OrderState
  | .complete => .done
  | .topped => .short
  | .withdrawn => .withdrawn

/-- The last end cause an orderly end records. -/
def EndCause.lastEnd : EndCause → LastEnd
  | .complete => .complete
  | .topped => .topped
  | .withdrawn => .withdrawn

/-- An order finished with a cause: its state and last end cause written, its id off its queue, ORDER_END if notified (R27, R32). -/
def finishOrder (o : OrderId) (c : EndCause) (s : State) : State :=
  notifyEnd o (dequeue o (s.setOrder o { s.order o with state := c.finished, lastEnd := some c.lastEnd }))

/-- The cause of an immediate end (R76). -/
inductive ImmediateCause where
  | yield
  | fault (kind : FaultKind)
deriving DecidableEq, Repr

/-- An order record after a YIELD (R28) or a FAULT with its retry counted (R29). -/
def Order.immediate (c : ImmediateCause) (r : Order) : Order :=
  match c with
  | .yield => { r with state := .ready, lastEnd := some .yield }
  | .fault kind =>
    { r with
      state := if r.retryLimit ≠ 0 ∧ r.retriesLeft ≤ 1 then .stalled else .ready
      retriesLeft := if r.retryLimit = 0 then r.retriesLeft else r.retriesLeft - 1
      lastEnd := some .fault
      lastFault := some kind }

/-- The order pool records an immediate end; an order that stalls raises ORDER_END whatever its notify flag (R28 to R30). -/
def recordImmediate (o : OrderId) (c : ImmediateCause) (s : State) : State :=
  let t := s.setOrder o ((s.order o).immediate c)
  if (t.order o).state = .stalled then endOrder o t else t

/-! ### The end of a pour (R54, R60, R76) -/

/-- The pour record at the end of a pour: all cleared but the pause-reason set (R60). -/
def clearPour (s : State) : State := { s with pour := { Pour.cleared with reasons := s.pour.reasons } }

/-- What an immediate end leads to (R54). -/
inductive After where
  | halt (c : HaltCause)
  | haltSchedule
  | walk
deriving DecidableEq, Repr

/-- The scheduler after an end that leads to no activation: STOPPED at the end of a stepped pour, else SEEKING, the cursor moved on
(R54). -/
def walkOn (s : State) : State :=
  if s.sched.stepFlag then enterState .stopped (moveCursor { s with sched.active := none, sched.stepFlag := false })
  else moveOn (enterState .seeking { s with sched.active := none })

/-- The scheduler enters STOPPED on HALT SCHEDULE (R44). -/
def stopSchedule (s : State) : State :=
  enterState .stopped (clearHeld { s with sched.active := none, sched.stepFlag := false })

/-- The scheduler after an immediate end (R54). -/
def afterImmediate (k : After) (s : State) : State :=
  match k with
  | .halt c => if s.vesselOpen then raiseHalt c s else walkOn s
  | .haltSchedule => stopSchedule s
  | .walk => walkOn s

/-- An immediate end of the pour in progress (R76); nothing while no pour is in progress. -/
def immediateEnd (c : ImmediateCause) (k : After) (s : State) : State :=
  match s.pourOrder with
  | some o => afterImmediate k (commitAmendments (clearPour (recordImmediate o c (endTravel (stopAxes s)))))
  | none => s

/-- An event that raises a halt cause: it ends any pour in progress at once, and the scheduler enters HALTED (R57, R76). -/
def haltWith (c : ImmediateCause) (h : HaltCause) (s : State) : State :=
  if s.pourOrder.isSome then immediateEnd c (.halt h) s else raiseHalt h s

/-! ### Eligibility (R49 to R51) -/

/-- The lots of the material in flight: those of the records and of the outstanding grant (R50). -/
def State.lotsInFlight (s : State) : List Nat :=
  s.belt.records.map Transit.lot ++ (s.weigh.grant.map Grant.lot).toList

/-- The travel to an order's spot in its hold is feasible (R51). -/
def State.travelFeasible (s : State) (h : HoldId) (spot : Option (Along × Across)) : Bool :=
  match spot with
  | some (al, _) => s.feasible (s.moveFromGantry (s.spotX h al))
  | none => false

/-- The first eligibility test that a READY order of hold `h` fails, none when it passes all that apply to it (R49). -/
def State.ineligible (s : State) (h : HoldId) (o : OrderId) : Option HeldCause :=
  if !((s.hold h).declared && (s.hold h).hatchOpen) then some .closed
  else if inSet s.exclusion h then some .excluded
  else if !(s.order o).isVisit && !s.lotPasses h (s.order o).lot then some .grade
  else if !(s.order o).isVisit && !s.lotsInFlight.all (s.lotPasses h) then some .carryover
  else if !(s.order o).isVisit && s.isFull h then some .full
  else if !s.travelFeasible h (s.order o).spot then some .clearance
  else none

/-! ### Finalisation (R27, R54, R55, R75) -/

/-- The order the continue rule activates after a finalisation of an order of hold `h` with a cause (R55). -/
def State.continueWith (s : State) (r : Order) (c : EndCause) (h : HoldId) : Option OrderId :=
  if r.cont ∧ c ≠ .withdrawn then
    match s.queue h with
    | o :: _ => if (s.order o).state = .ready ∧ s.ineligible h o = none then some o else none
    | [] => none
  else none

/-- The active order finalises with a cause (R27, R75) and the scheduler goes on (R54); the answer names the order the continue
rule activates, which is then still to be activated. -/
def finaliseStep (c : EndCause) (s : State) : State × Option OrderId :=
  match s.pourOrder with
  | none => (s, none)
  | some o =>
    let t := commitAmendments (clearPour (finishOrder o c (endTravel (stopAxes s))))
    let next := (s.order o).hold.bind (t.continueWith (s.order o) c)
    if t.sched.stepFlag then (walkOn t, none)
    else
      match next with
      | some n => ({ t with sched.active := none }, some n)
      | none => (walkOn t, none)

/-! ### Activation (R52, R61, R90) -/

/-- The pour enters PAUSED with a return state (R68): the run line drops, MOVING axes stop, a travel phase is abandoned. -/
def enterPaused (ret : ReturnState) (s : State) : State :=
  let t := setRunLine (abandonTravel (stopAxes (enterState .paused s)))
  { t with pour.returnState := some ret, pour.manualSeen := s.pour.reasons.manual }

/-- No pause reason stands. -/
def ReasonSet.isEmpty (r : ReasonSet) : Bool := !(r.cab || r.ship || r.dust || r.manual)

/-- The spot of an order written as spot X and spot Y (R90, R91). -/
def writeSpot (h : HoldId) (spot : Option (Along × Across)) (s : State) : State :=
  match spot with
  | some (al, ac) => { s with spout.spotX := some (s.spotX h al), spout.spotY := some (s.spotY h ac) }
  | none => s

/-- An order activated (R26, R52, R61, R90, R141): ACTIVE and the active order, progress SET, TRAVELLING, the last pour hold its
hold; an axis in FAULT ends the pour at once; pause reasons that stand pause it; otherwise RAISE begins. The answer says whether
the travel completed at once. An order with no hold, which no run reaches, is walked past (notes/assumptions/13.md). -/
def activateStep (o : OrderId) (s : State) : State × Bool :=
  match (s.order o).hold with
  | none => (walkOn s, false)
  | some h =>
    let t := clearPour (s.setOrder o { s.order o with state := .active })
    let t := enterState .travelling { t with sched.active := some o, sched.progress := true, belt.lastHold := some h }
    if t.axisFault then (immediateEnd (.fault .axis) (.halt .axis) t, false)
    else
      let t := writeSpot h (s.order o).spot t
      if t.pour.reasons.isEmpty then beginRaise t
      else (enterPaused .travelling { t with spout.phase := .raise }, false)

/-- The scheduler enters POURING or DRAINING from travel completion or from a pause: the run line follows R63 and the SPOUT is
given a tracking move (R62, R70, R100). -/
def enterFeeding (st : SchedState) (s : State) : State := track (setRunLine (enterState st s))

/-- An order activated, with what follows within the same event: an order whose travel completes at once pours, and a visit order
finalises and may hand on to the next by the continue rule. Each turn finishes one order of the pool, so 64 turns are enough. -/
def runActivation : Nat → OrderId → State → State
  | 0, _, s => walkOn s
  | n + 1, o, s =>
    match activateStep o s with
    | (t, false) => t
    | (t, true) =>
      if (t.order o).isVisit then
        match finaliseStep .complete t with
        | (u, some next) => runActivation n next u
        | (u, none) => u
      else enterFeeding .pouring t

/-- An order activated (R52). -/
def activate (o : OrderId) (s : State) : State := runActivation 65 o s

/-- The active order finalises and the scheduler goes on, by the continue rule where it applies (R27, R54, R55, R75). -/
def finalise (c : EndCause) (s : State) : State :=
  match finaliseStep c s with
  | (t, some next) => activate next t
  | (t, none) => t

/-- The finalisation test, in DRAINING or PAUSED with return state DRAINING (R75). -/
def finalisationTest (s : State) : State :=
  if s.isDraining && s.beltClear then finalise (s.pour.endCause.getD .complete) s else s

/-- The travel is reported complete (R62). -/
def travelComplete (s : State) : State :=
  match s.pourOrder with
  | none => s
  | some o =>
    if (s.order o).isVisit then finalise .complete s
    else if s.pour.endCause.isNone then enterFeeding .pouring s
    else finalisationTest (enterFeeding .draining s)

/-- A travel operation's answer acted on: travel completion is reported to the pour interlock. -/
def settle (r : State × Bool) : State := if r.2 then travelComplete r.1 else r.1

/-- A clearance recompute event (R97). -/
def recompute (s : State) : State := settle (recomputeTravel false s)

/-! ### Orderly ends (R72) -/

/-- A cause combined with the recorded one: WITHDRAWN replaces, COMPLETE and TOPPED leave what is recorded (R72). -/
def combineCause (recorded : Option EndCause) (c : EndCause) : EndCause :=
  match c, recorded with
  | .withdrawn, _ => .withdrawn
  | c, none => c
  | _, some r => r

/-- The belt lets the active pour finalise at once: it is clear, or the order is a visit order, which never drains (R72). -/
def State.mayFinaliseAtOnce (s : State) : Bool :=
  s.beltClear || (s.pourOrder.map fun o => (s.order o).isVisit).getD false

/-- An orderly end of the pour in progress with a cause (R72). -/
def orderlyEnd (c : EndCause) (s : State) : State :=
  let cause := combineCause s.pour.endCause c
  match s.sched.state, s.pour.returnState with
  | .pouring, _ => finalisationTest (setRunLine (enterState .draining { s with pour.endCause := some cause }))
  | .travelling, _ | .paused, some .travelling =>
    if s.mayFinaliseAtOnce then finalise cause s else { s with pour.endCause := some cause }
  | .paused, some .pouring =>
    if s.mayFinaliseAtOnce then finalise cause s
    else { s with pour.endCause := some cause, pour.returnState := some .draining }
  | .draining, _ | .paused, some .draining => { s with pour.endCause := some cause }
  | _, _ => s

/-! ### Pause reasons (R67 to R70) -/

/-- A reason stands in a set. -/
def ReasonSet.has (r : ReasonSet) : PauseReason → Bool
  | .cab => r.cab
  | .ship => r.ship
  | .dust => r.dust
  | .manual => r.manual

/-- A set with one reason added or removed. -/
def ReasonSet.put (r : ReasonSet) (c : PauseReason) (b : Bool) : ReasonSet :=
  match c with
  | .cab => { r with cab := b }
  | .ship => { r with ship := b }
  | .dust => { r with dust := b }
  | .manual => { r with manual := b }

/-- A reason added (R65 to R69): a TRAVELLING or POURING pour whose set becomes non-empty enters PAUSED; in PAUSED, MANUAL makes
manual-seen YES. -/
def addReason (c : PauseReason) (s : State) : State :=
  let t := { s with pour.reasons := s.pour.reasons.put c true }
  match s.sched.state with
  | .travelling => if s.pour.reasons.isEmpty then enterPaused .travelling t else t
  | .pouring => if s.pour.reasons.isEmpty then enterPaused .pouring t else t
  | .paused => if c = .manual then { t with pour.manualSeen := true } else t
  | .stopped | .seeking | .draining | .held | .complete | .halted => t

/-- A paused pour leaves PAUSED (R70). -/
def leavePause (s : State) : State :=
  let t := { s with pour.returnState := none, pour.manualSeen := false }
  match s.pour.returnState, s.pour.manualSeen with
  | some .pouring, false => enterFeeding .pouring t
  | some .draining, false => finalisationTest (enterFeeding .draining t)
  | some .travelling, seen | some .pouring, seen | some .draining, seen =>
    settle (restartTravel seen (enterState .travelling t))
  | none, _ => s

/-- A reason removed (R65 to R70): a pour leaves PAUSED when the set becomes empty. -/
def removeReason (c : PauseReason) (s : State) : State :=
  let t := { s with pour.reasons := s.pour.reasons.put c false }
  if s.sched.state = .paused ∧ s.pour.reasons.isEmpty = false ∧ t.pour.reasons.isEmpty then leavePause t else t

/-! ### Faults of an axis and of the belt (R64, R87) -/

/-- An axis enters FAULT (R87): AXIS_FAULT is raised, and a pour in progress ends FAULT, kind AXIS, with the halt cause AXIS. An
axis already in FAULT stays as it is. -/
def failAxis (a : Axis) (reason : AxisReason) (s : State) : State :=
  if (s.axis a).state = .fault then s
  else immediateEnd (.fault .axis) (.halt .axis) (raise .axisFault (s.setAxis a ((s.axis a).fail reason)))

/-- A belt failure: the pour ends FAULT, kind BELT, with the halt cause BELT (R64, R78). -/
def beltFailure (s : State) : State := immediateEnd (.fault .belt) (.halt .belt) s

/-! ### Changes of the exclusion set (R20, R21) -/

/-- The exclusion set formed anew after a source changed; `before` is the set before the event. A change raises MASK_CHANGED, is a
wake event, and ends the pour whose hold entered the set with YIELD. -/
def exclusionFormed (before : HoldSet) (s : State) : State :=
  if s.exclusion = before then s
  else
    let t := wake (raise .maskChanged s)
    match s.pourHold with
    | some h => if inSet s.exclusion h && !inSet before h then immediateEnd .yield .walk t else t
    | none => t

/-! ### Lots and bills (R167 to R169) -/

/-- The bill of an account (R169). -/
def State.billOf (s : State) (r : Lot) : Bill where
  number := s.bank.nextBill
  vessel := s.ship.vessel
  lot := r.number
  shipper := r.shipper
  grade := r.grade
  weighed := r.weighed
  uncertified := r.uncertified
  declared := r.declared
  variance := r.declared.map fun d => (r.weighed : Int) - d
  count := r.count
  first := r.first
  last := r.last
  allocs := r.allocs
  flags :=
    ⟨r.declared.any fun d => r.weighed < d, r.declared.any fun d => d < r.weighed, 0 < r.uncertified⟩

/-- The sum of a list's allocations to one hold. -/
def allocTo (allocs : List (HoldId × Nat)) (h : HoldId) : Nat :=
  ((allocs.filter fun e => e.1 == h).map Prod.snd).sum

/-- One bill issued for the lot in a slot (R168, steps 1 to 5). -/
def issueBill (l : LotSlot) (s : State) : State :=
  let r := s.lot l
  let t := { s with
    bank.bills := s.bank.bills ++ [s.billOf r]
    bank.closing := s.bank.closing.filter (· != r.number)
    bank.nextBill := if s.bank.nextBill + 1 < 2 ^ 32 then s.bank.nextBill + 1 else s.bank.nextBill
    bank.exhausted := !(s.bank.nextBill + 1 < 2 ^ 32)
    holds := tabulate fun h => { s.hold h with billed := (s.hold h).billed + allocTo r.allocs h } }
  raise .billReady (t.setLot l Lot.free)

/-- The bill store has room and the counter is not exhausted (R168). -/
def State.mayBill (s : State) : Bool := s.bank.bills.length < Config.maxBills && !s.bank.exhausted

/-- No transit record and no outstanding grant is of a lot (R167). -/
def State.lotDrained (s : State) (number : Nat) : Bool :=
  !(s.belt.records.any fun t => t.lot == number) && !(s.weigh.grant.any fun g => g.lot == number)

/-- The drain test of a lot: a CLOSING lot not yet drained that has no material in flight becomes drained, and is billed when that
may be (R167, R168). -/
def drainTest (number : Nat) (s : State) : State :=
  match s.lotSlot number with
  | none => s
  | some l =>
    if (s.lot l).state = .closing ∧ (s.lot l).drained = false ∧ s.lotDrained number then
      let t := s.setLot l { s.lot l with drained := true }
      if s.mayBill then issueBill l t else t
    else s

end Sys2Proof.Machine
end

