-- ==== Sys2Proof/Machine/Requests.lean ====
section
/-! DEFINITION. How a command is taken: a request at a port with its checks and its one reply (R176 to R179), and an event of the
field lines or the timers, which waits out a reset (R184). -/

namespace Sys2Proof.Machine

/-- What the owning block answers to a request: the state after it, the result code and the items of the reply. -/
structure Taken where
  state : State
  result : Result
  items : List Byte

/-- A request taken: DONE with the items its rule gives. -/
def Taken.done (s : State) (items : List Byte := []) : Taken := ⟨s, .done, items⟩

/-- A request refused: the state as it was, the code alone (R178, R179). -/
def Taken.refuse (s : State) (r : Result) : Taken := ⟨s, r, []⟩

/-- Which port may send a request, by its code (R178). -/
def permitted (p : Port) (code : Byte) : Bool :=
  let n := code.toNat
  if n ≤ 0x11 then p == .station
  else if n ≤ 0x1A then p == .cab
  else if n ≤ 0x23 then p == .ship
  else if n ≤ 0x26 then p == .scale
  else if n = 0x27 then p == .station || p == .ship
  else true

/-- The code of a reply: the request code plus 80H (R174); a code of 80H or more has no such byte and the reply's code is a free
value (notes/assumptions/10.md). -/
def replyCode (code : Byte) : Byte := if code.toNat < 0x80 then code + 0x80 else Config.replyCode code

/-- A reply joins the tail of a port's waiting replies (R177). -/
def reply (p : Port) (code : Byte) (result : Result) (items : List Byte) (s : State) : State :=
  s.setPort p { s.port p with waiting := (s.port p).waiting ++ [⟨replyCode code, result, items⟩] }

/-- A port's receive condition becomes IDLE; a frame in progress is dropped (R176). -/
def idlePort (p : Port) (s : State) : State := s.setPort p { s.port p with rx := .idle }

/-- Two replies wait on a port, so that a complete frame is discarded there (R177). -/
def State.portFull (s : State) (p : Port) : Bool := Config.maxReplies ≤ (s.port p).waiting.length

/-- A complete request frame on a port (R176 to R178): not taken while reset is asserted (R184); discarded while two replies wait;
refused with BAD_FIELD when its layout does not fit and with NOT_PERMITTED when the port may not send it; otherwise handed to the
owning block. Whatever it answers is the one reply. -/
def request (i : Instr) (p : Port) (owner : State → Taken) (s : State) : Host.Outcome State Fault Refusal :=
  .next <|
    if s.inReset then s
    else if s.portFull p then idlePort p s
    else
      let t := idlePort p s
      if !i.wellFormed then reply p i.requestCode .badField [] t
      else if !permitted p i.requestCode then reply p i.requestCode .notPermitted [] t
      else reply p i.requestCode (owner t).result (owner t).items (owner t).state

/-- An arrival, an expiry or an event of the controller: nothing is taken while reset is asserted (R184). -/
def event (f : State → State) (s : State) : Host.Outcome State Fault Refusal := .next (if s.inReset then s else f s)

/-- The clock brought to a deadline that a command says has passed (notes/assumptions/2.md). -/
def reachTime (t : Time) (s : State) : State := { s with now := max s.now t }

/-- The checks of a request that is no read: its fields in range, a vessel open (R2, R23, R162). -/
def whileOpen {α : Type} (field : Option α) (s : State) (act : α → Taken) : Taken :=
  match field with
  | none => .refuse s .badField
  | some x => if s.vesselOpen then act x else .refuse s .state

/-- The same checks and a declared hold (R2). -/
def onDeclared (hold : Byte) (s : State) (act : HoldId → Taken) : Taken :=
  whileOpen (holdOf hold) s fun h => if (s.hold h).declared then act h else .refuse s .unknown

/-- The same checks and an order whose slot is not FREE (R23). -/
def onOrder (order : Byte) (s : State) (act : OrderId → Taken) : Taken :=
  whileOpen (orderOf order) s fun o => if (s.order o).state = .free then .refuse s .unknown else act o

end Sys2Proof.Machine
end

