-- ==== Sys2Proof/Machine/HoldTable.lean ====
section
/-! DEFINITION. The requests to the hold table and the river level (chapter 1). -/

namespace Sys2Proof.Machine

/-! ### Declarations and amendments (sections 1.1 to 1.3) -/

/-- The fields of DECLARE HOLD clamped into their ranges (R3). -/
def declaredGeom (foreX aftX innerY outerY coaming : BitVec 16) (key mask : Byte) : HoldGeom where
  foreX := clampInt (-20000) 20000 foreX.toInt
  aftX := clampInt (-20000) 20000 aftX.toInt
  innerY := clampNat 0 4000 innerY.toNat
  outerY := clampNat 0 4000 outerY.toNat
  coaming := clampNat 0 400 coaming.toNat
  key := key
  mask := mask

/-- The size test of R3: each side at least six hatch margins plus 300 cm. -/
def HoldGeom.bigEnough (margin : Nat) (g : HoldGeom) : Bool :=
  g.foreX < g.aftX && g.innerY < g.outerY &&
    ((6 * margin + 300 : Nat) : Int) ≤ g.aftX - g.foreX && ((6 * margin + 300 : Nat) : Int) ≤ g.outerY - g.innerY

/-- The values used, as the reply gives them: the clamped fields. -/
def HoldGeom.used (g : HoldGeom) : List Byte :=
  s16 g.foreX ++ s16 g.aftX ++ u16 g.innerY.toNat ++ u16 g.outerY.toNat ++ u16 g.coaming

/-- A first declaration (R3): in effect at once, and a clearance recompute event (R97). -/
def declareFirst (h : HoldId) (g : HoldGeom) (s : State) : State :=
  recompute (s.setHold h { Hold.undeclared with declared := true, geom := g })

/-- An amendment of a declared hold (R6): staged, and committed at once outside the pour states (R8). -/
def stageAmendment (h : HoldId) (g : HoldGeom) (s : State) : State :=
  boundaryTest (s.setHold h { s.hold h with staged := some g })

/-- DECLARE HOLD (R3, R6). -/
def takeDeclareHold (hold : Byte) (g : HoldGeom) (s : State) : Taken :=
  whileOpen (holdOf hold) s fun h =>
    if !g.bigEnough s.settings.hatchMargin then .refuse s .badField
    else if (s.hold h).declared then .done (stageAmendment h g s) g.used
    else .done (declareFirst h g s) g.used

def execDeclareHold (p : Port) (hold : Byte) (foreX aftX innerY outerY coaming : BitVec 16) (key mask : Byte) (s : State) :
    Host.Outcome State Fault Refusal :=
  request (.declareHold p hold foreX aftX innerY outerY coaming key mask) p
    (takeDeclareHold hold (declaredGeom foreX aftX innerY outerY coaming key mask)) s

/-- SET SHIP OFFSET (R7). -/
def takeSetShipOffset (offset : BitVec 16) (heading : Byte) (s : State) : Taken :=
  whileOpen (headingOf heading) s fun hd =>
    let x := clampInt (-20000) 20000 offset.toInt
    .done (boundaryTest { s with ship.staged := some (x, hd) }) (s16 x)

def execSetShipOffset (p : Port) (offset : BitVec 16) (heading : Byte) (s : State) : Host.Outcome State Fault Refusal :=
  request (.setShipOffset p offset heading) p (takeSetShipOffset offset heading) s

/-- The seven copied fields of a hold, as a reply gives them. -/
def HoldGeom.bytes (g : HoldGeom) : List Byte := g.used ++ [g.key, g.mask]

/-- The reply to READ HOLD (R9). -/
def holdReport (h : HoldId) (s : State) : List Byte :=
  let r := s.hold h
  yes r.declared ++ r.geom.bytes ++ yes r.staged.isSome ++ yes (!r.hatchOpen) ++ u32 r.limit ++ u32 r.loaded ++
    u32 r.billed ++ u32 (s.committed h) ++ u32 (s.room h) ++ yes (s.isFull h) ++ opt u16 r.freeboard ++
    opt (remaining s.now) r.lockout ++ yes (inSet s.exclusion h) ++
    bits [inSet s.suspension.mask h, r.lockout.isSome, r.declared && !r.hatchOpen]

/-- READ HOLD (R9). -/
def takeReadHold (hold : Byte) (s : State) : Taken :=
  match holdOf hold with
  | none => .refuse s .badField
  | some h => .done s (holdReport h s)

def execReadHold (p : Port) (hold : Byte) (s : State) : Host.Outcome State Fault Refusal :=
  request (.readHold p hold) p (takeReadHold hold) s

/-- READ STAGED (R9): a hold, or 0 for the ship particulars. -/
def takeReadStaged (hold : Byte) (s : State) : Taken :=
  if hold = 0 then
    .done s (yes s.ship.staged.isSome ++ opt (fun x => s16 x.1 ++ u8 x.2.place) s.ship.staged)
  else
    match holdOf hold with
    | none => .refuse s .badField
    | some h => .done s (yes (s.hold h).staged.isSome ++ opt HoldGeom.bytes (s.hold h).staged)

def execReadStaged (p : Port) (hold : Byte) (s : State) : Host.Outcome State Fault Refusal :=
  request (.readStaged p hold) p (takeReadStaged hold) s

/-! ### River level (section 1.4) -/

/-- The travel of the READY top order of some hold whose entry is CLEARANCE is feasible now (R56, R116). -/
def State.clearanceFeasible (s : State) : Bool :=
  (List.finRange 8).any fun h =>
    s.sched.held[h] == some .clearance &&
      match s.queue h with
      | o :: _ => (s.order o).state == .ready && s.travelFeasible h (s.order o).spot
      | [] => false

/-- What a valid level arrival, a taken REPORT DRAFT and a taken SET TPC bring about: the wake test for CLEARANCE findings (R56)
and a clearance recompute event (R97). -/
def heightsChanged (s : State) : State := recompute (if s.clearanceFeasible then wake s else s)

/-- A level arrival (R10). -/
def levelArrived (value : BitVec 32) (s : State) : State :=
  if 0 ≤ value.toInt ∧ value.toInt ≤ 3000 then
    heightsChanged { s with river := ⟨value.toInt.toNat, s.now, false⟩ }
  else raise .levelFault s

def execRiverLevelArrival (value : BitVec 32) (s : State) : Host.Outcome State Fault Refusal :=
  event (levelArrived value) s

/-- 10 s have passed without a valid arrival (R11); nothing while the level is stale already. -/
def levelGoesStale (s : State) : State :=
  if s.river.stale then s
  else raise .levelStale { reachTime (s.river.lastValid + Config.levelStaleTime) s with river.stale := true }

def execLevelStale (s : State) : Host.Outcome State Fault Refusal := event levelGoesStale s

/-! ### Ship requests on holds (section 1.6) -/

/-- SET HOLD LIMIT (R14): the limit, the wake event, and the orderly end of a POURING pour whose hold is FULL after the change. -/
def takeSetHoldLimit (hold : Byte) (limit : BitVec 32) (s : State) : Taken :=
  onDeclared hold s fun h =>
    let kg := clampNat 0 500000000 limit.toNat
    let t := wake (s.setHold h { s.hold h with limit := kg })
    if t.sched.state = .pouring ∧ t.pourHold = some h ∧ t.isFull h then .done (orderlyEnd .topped t) (u32 kg)
    else .done t (u32 kg)

def execSetHoldLimit (p : Port) (hold : Byte) (limit : BitVec 32) (s : State) : Host.Outcome State Fault Refusal :=
  request (.setHoldLimit p hold limit) p (takeSetHoldLimit hold limit) s

/-- CLOSE HATCH (R15). -/
def takeCloseHatch (hold : Byte) (s : State) : Taken :=
  onDeclared hold s fun h =>
    .done (exclusionFormed s.exclusion (s.setHold h { s.hold h with hatchOpen := false })) (u8 1)

def execCloseHatch (p : Port) (hold : Byte) (s : State) : Host.Outcome State Fault Refusal :=
  request (.closeHatch p hold) p (takeCloseHatch hold) s

/-- OPEN HATCH (R15): a hatch that goes from CLOSED to OPEN is a wake event, once with the change of the set (R56). -/
def takeOpenHatch (hold : Byte) (s : State) : Taken :=
  onDeclared hold s fun h =>
    let t := s.setHold h { s.hold h with hatchOpen := true }
    if (s.hold h).hatchOpen then .done s (u8 0)
    else if t.exclusion = s.exclusion then .done (wake t) (u8 0)
    else .done (exclusionFormed s.exclusion t) (u8 0)

def execOpenHatch (p : Port) (hold : Byte) (s : State) : Host.Outcome State Fault Refusal :=
  request (.openHatch p hold) p (takeOpenHatch hold) s

/-- The entries of a draft report: 1 to 8, each a hold 1 to 8, none named twice; the freeboards clamped (R16). -/
def draftOf (entries : List (Byte × BitVec 16)) : Option (List (HoldId × Nat)) :=
  (holdListOf (entries.map Prod.fst)).map fun hs => hs.zip (entries.map fun e => clampNat 0 2000 e.2.toNat)

/-- The freeboards of a draft written (R16). -/
def writeFreeboards (draft : List (HoldId × Nat)) (s : State) : State :=
  draft.foldl (fun t e => t.setHold e.1 { t.hold e.1 with freeboard := some e.2 }) s

/-- REPORT DRAFT (R16). -/
def takeReportDraft (entries : List (Byte × BitVec 16)) (s : State) : Taken :=
  whileOpen (draftOf entries) s fun draft =>
    if draft.all fun e => (s.hold e.1).declared then
      let t := writeFreeboards draft s
      .done (heightsChanged { t with ship.loadedAtReport := s.totalLoaded }) (list u16 (draft.map Prod.snd))
    else .refuse s .unknown

def execReportDraft (p : Port) (entries : List (Byte × BitVec 16)) (s : State) : Host.Outcome State Fault Refusal :=
  request (.reportDraft p entries) p (takeReportDraft entries) s

/-- SET TPC (R17): 0 makes TPC absent. -/
def takeSetTpc (tpc : BitVec 32) (s : State) : Taken :=
  whileOpen (some tpc.toNat) s fun n =>
    let used := if n = 0 then none else some (clampNat 1000 200000 n)
    .done (heightsChanged { s with ship.tpc := used }) (opt u32 used)

def execSetTpc (p : Port) (tpc : BitVec 32) (s : State) : Host.Outcome State Fault Refusal :=
  request (.setTpc p tpc) p (takeSetTpc tpc) s

/-! ### The suspension stack (section 1.7) -/

/-- The reply to SUSPEND and RESUME: the current mask and the number of saved masks. -/
def suspensionReport (s : State) : List Byte := [s.suspension.mask] ++ u8 s.suspension.saved.length

/-- SUSPEND (R18). -/
def takeSuspend (holds : List Byte) (s : State) : Taken :=
  whileOpen (holdListOf holds) s fun hs =>
    if Config.maxSaved ≤ s.suspension.saved.length then .refuse s .full
    else
      let t := { s with suspension := ⟨s.suspension.mask ||| setOf hs, s.suspension.mask :: s.suspension.saved⟩ }
      .done (exclusionFormed s.exclusion t) (suspensionReport t)

def execSuspend (p : Port) (holds : List Byte) (s : State) : Host.Outcome State Fault Refusal :=
  request (.suspend p holds) p (takeSuspend holds) s

/-- RESUME (R19). -/
def takeResume (s : State) : Taken :=
  whileOpen (some ()) s fun _ =>
    match s.suspension.saved with
    | [] => .refuse s .empty
    | mask :: rest =>
      let t := { s with suspension := ⟨mask, rest⟩ }
      .done (exclusionFormed s.exclusion t) (suspensionReport t)

def execResume (p : Port) (s : State) : Host.Outcome State Fault Refusal :=
  request (.resume p) p takeResume s

end Sys2Proof.Machine
end

