-- ==== Sys2Proof/Machine/Lots.lean ====
section
/-! DEFINITION. The requests to the lot accounts and the bill store (chapter 10). -/

namespace Sys2Proof.Machine

/-! ### Lots (sections 10.2, 10.3) -/

/-- The lowest-numbered FREE slot of the lot accounts. -/
def State.freeLot (s : State) : Option LotSlot :=
  (List.finRange 16).find? fun l => (s.lot l).state == .free

/-- The account of a lot just opened (R163); a declared_kg of 0 is open-ended, a larger one is clamped (R162). -/
def newLot (lot shipper : BitVec 16) (grade : Byte) (declared : BitVec 32) : Lot :=
  { Lot.free with
    state := .opened
    number := lot.toNat
    shipper := shipper.toNat
    grade := grade
    declared := if declared = 0 then none else some (clampNat 1 4000000000 declared.toNat) }

/-- A lot number of a request: not 0 (R162). -/
def lotNumberOf (lot : BitVec 16) : Option Nat := if lot = 0 then none else some lot.toNat

/-- OPEN LOT (R163). -/
def takeOpenLot (lot : BitVec 16) (account : Lot) (s : State) : Taken :=
  whileOpen (lotNumberOf lot) s fun n =>
    if (s.lotSlot n).isSome then .refuse s .duplicate
    else
      match s.freeLot with
      | none => .refuse s .full
      | some l => .done (s.setLot l account) (opt u32 account.declared)

def execOpenLot (p : Port) (lot shipper : BitVec 16) (grade : Byte) (declared : BitVec 32) (s : State) :
    Host.Outcome State Fault Refusal :=
  request (.openLot p lot shipper grade declared) p (takeOpenLot lot (newLot lot shipper grade declared)) s

/-- An order keeps its lot from closing: READY, ACTIVE or STALLED (R165). -/
def OrderState.live : OrderState → Bool
  | .ready | .active | .stalled => true
  | .free | .done | .short | .withdrawn => false

/-- Some order of a lot is READY, ACTIVE or STALLED (R165). -/
def State.lotHasOrders (s : State) (number : Nat) : Bool :=
  (List.finRange 64).any fun o => (s.order o).state.live && (s.order o).lot == number

/-- A lot closed (R165): CLOSING, at the tail of the closing queue, and tested for drain. -/
def closeLotAt (l : LotSlot) (number : Nat) (s : State) : State :=
  drainTest number
    { s.setLot l { s.lot l with state := .closing } with bank.closing := s.bank.closing ++ [number] }

/-- The drain test found the lot with this number drained: its account says so, or has been billed and is gone. -/
def State.lotIsDrained (s : State) (number : Nat) : Bool :=
  match s.lotSlot number with
  | some l => (s.lot l).drained
  | none => true

/-- CLOSE LOT (R165); the reply gives drained and whether a bill was issued. -/
def takeCloseLot (lot : BitVec 16) (s : State) : Taken :=
  whileOpen (lotNumberOf lot) s fun n =>
    match s.lotSlot n with
    | none => .refuse s .unknown
    | some l =>
      if (s.lot l).state = .closing then .refuse s .state
      else if s.lotHasOrders n then .refuse s .orders
      else
        let t := closeLotAt l n s
        .done t (yes (t.lotIsDrained n) ++ yes (t.lotSlot n).isNone)

def execCloseLot (p : Port) (lot : BitVec 16) (s : State) : Host.Outcome State Fault Refusal :=
  request (.closeLot p lot) p (takeCloseLot lot) s

/-- An allocation list as bytes. -/
def allocBytes : List (HoldId × Nat) → List Byte := list fun e => holdByte e.1 ++ u32 e.2

/-- The place of a lot in the closing queue, counted from 1. -/
def State.closingPlace (s : State) (number : Nat) : Option Nat :=
  if s.bank.closing.contains number then some (s.bank.closing.idxOf number + 1) else none

/-- The size of the outstanding grant, if it is of a lot. -/
def State.grantOf (s : State) (number : Nat) : Option Nat :=
  (s.weigh.grant.filter fun g => g.lot == number).map Grant.size

/-- The reply to READ LOT (R171): the account in the order of its table, the net on the belt, the grant, the closing place. -/
def lotReport (r : Lot) (s : State) : List Byte :=
  u8 r.state.place ++ u16 r.number ++ u16 r.shipper ++ [r.grade] ++ opt u32 r.declared ++ u32 r.weighed ++
    u32 r.uncertified ++ u32 r.count ++ opt u16 r.first ++ opt u16 r.last ++ allocBytes r.allocs ++ yes r.drained ++
    u32 (netWhere (fun t => t.lot == r.number) s.belt.records) ++ yes (s.grantOf r.number).isSome ++
    opt u16 (s.grantOf r.number) ++ opt u8 (s.closingPlace r.number)

/-- READ LOT (R171). -/
def takeReadLot (lot : BitVec 16) (s : State) : Taken :=
  match lotNumberOf lot with
  | none => .refuse s .badField
  | some n =>
    match s.lotSlot n with
    | none => .refuse s .unknown
    | some l => .done s (lotReport (s.lot l) s)

def execReadLot (p : Port) (lot : BitVec 16) (s : State) : Host.Outcome State Fault Refusal :=
  request (.readLot p lot) p (takeReadLot lot) s

/-! ### The bill store (section 10.5) -/

/-- A bill as bytes, in the order of the table of R169. -/
def Bill.bytes (b : Bill) : List Byte :=
  u32 b.number ++ bytes16 b.vessel ++ u16 b.lot ++ u16 b.shipper ++ [b.grade] ++ u32 b.weighed ++ u32 b.uncertified ++
    opt u32 b.declared ++ opt Machine.variance b.variance ++ u32 b.count ++ opt u16 b.first ++ opt u16 b.last ++
    allocBytes b.allocs ++ b.flags.byte

/-- READ BILL (R170): the oldest bill and the number of bills. -/
def takeReadBill (s : State) : Taken :=
  match s.bank.bills with
  | [] => .refuse s .empty
  | b :: rest => .done s (b.bytes ++ u8 (rest.length + 1))

def execReadBill (p : Port) (s : State) : Host.Outcome State Fault Refusal := request (.readBill p) p takeReadBill s

/-- The next lot to be billed: the first drained one in the order of the closing queue (R168). -/
def State.nextToBill (s : State) : Option LotSlot :=
  s.bank.closing.findSome? fun n =>
    (s.lotSlot n).bind fun l => if (s.lot l).state = .closing ∧ (s.lot l).drained then some l else none

/-- The oldest bill removed, `rest` left; where the store had been full, the next drained lot is billed (R168, R170). -/
def releaseHead (rest : List Bill) (s : State) : State :=
  let t := { s with bank.bills := rest }
  if Config.maxBills ≤ s.bank.bills.length ∧ t.mayBill then
    match t.nextToBill with
    | some l => issueBill l t
    | none => t
  else t

/-- The number of a bill issued within a release: the counter's value before it, where the store has grown again. -/
def issuedWithin (rest : List Bill) (before after : State) : Option Nat :=
  if rest.length < after.bank.bills.length then some before.bank.nextBill else none

/-- RELEASE BILL (R170). -/
def takeReleaseBill (bill : BitVec 32) (s : State) : Taken :=
  if bill = 0 then .refuse s .badField
  else
    match s.bank.bills with
    | [] => .refuse s .empty
    | b :: rest =>
      if b.number ≠ bill.toNat then .refuse s .unknown
      else
        let t := releaseHead rest s
        .done t (u8 t.bank.bills.length ++ opt u32 (issuedWithin rest s t))

def execReleaseBill (p : Port) (bill : BitVec 32) (s : State) : Host.Outcome State Fault Refusal :=
  request (.releaseBill p bill) p (takeReleaseBill bill) s

end Sys2Proof.Machine
end

