-- ==== Sys2Proof/Machine/Orders.lean ====
section
/-! DEFINITION. The requests to the order pool and the pass list (chapter 2). -/

namespace Sys2Proof.Machine

/-! ### Orders (sections 2.2, 2.6) -/

/-- The fields of ADD ORDER in their ranges (R23). -/
structure OrderFields where
  lot : Nat
  hold : HoldId
  target : Nat
  spot : Along × Across
  cont : Bool
  notify : Bool
  retry : Nat
deriving DecidableEq, Repr

/-- The range checks of ADD ORDER; the target is clamped (R23). -/
def orderFields (lot : BitVec 16) (hold : Byte) (target : BitVec 32) (along across cont notify retry : Byte) :
    Option OrderFields :=
  match holdOf hold, alongOf along, acrossOf across, flagOf cont, flagOf notify with
  | some h, some al, some ac, some c, some n =>
    if lot ≠ 0 ∧ retry.toNat ≤ 3 then
      some ⟨lot.toNat, h, clampNat 0 50000000 target.toNat, (al, ac), c, n, retry.toNat⟩
    else none
  | _, _, _, _, _ => none

/-- The record of a new order (R24). -/
def OrderFields.order (f : OrderFields) : Order :=
  { Order.free with
    state := .ready
    lot := f.lot
    hold := some f.hold
    target := f.target
    spot := some f.spot
    cont := f.cont
    notify := f.notify
    retryLimit := f.retry
    retriesLeft := f.retry }

/-- The lowest-numbered FREE slot of the pool. -/
def State.freeOrder (s : State) : Option OrderId :=
  (List.finRange 64).find? fun o => (s.order o).state == .free

/-- An order added in a slot: READY at the tail of its hold's queue, and a wake event (R24). -/
def addOrderAt (o : OrderId) (f : OrderFields) (s : State) : State :=
  wake ((s.setOrder o f.order).setQueue f.hold (s.queue f.hold ++ [o]))

/-- ADD ORDER (R24). -/
def takeAddOrder (fields : Option OrderFields) (s : State) : Taken :=
  whileOpen fields s fun f =>
    if !(s.hold f.hold).declared then .refuse s .unknown
    else
      match s.lotSlot f.lot with
      | none => .refuse s .unknown
      | some l =>
        if (s.lot l).state = .closing then .refuse s .state
        else
          match s.freeOrder with
          | none => .refuse s .full
          | some o => .done (addOrderAt o f s) (orderByte o ++ u32 f.target)

def execAddOrder (p : Port) (lot : BitVec 16) (hold : Byte) (target : BitVec 32) (along across cont notify retry : Byte)
    (s : State) : Host.Outcome State Fault Refusal :=
  request (.addOrder p lot hold target along across cont notify retry) p
    (takeAddOrder (orderFields lot hold target along across cont notify retry)) s

/-- WITHDRAW ORDER (R32): a READY or STALLED order at once, a wake event; the ACTIVE order's pour is asked to end orderly. -/
def takeWithdrawOrder (order : Byte) (s : State) : Taken :=
  onOrder order s fun o =>
    match (s.order o).state with
    | .ready | .stalled =>
      let t := wake (finishOrder o .withdrawn s)
      .done t (u8 (t.order o).state.place)
    | .active =>
      let t := orderlyEnd .withdrawn s
      .done t (u8 (t.order o).state.place)
    | .free | .done | .short | .withdrawn => .refuse s .state

def execWithdrawOrder (p : Port) (order : Byte) (s : State) : Host.Outcome State Fault Refusal :=
  request (.withdrawOrder p order) p (takeWithdrawOrder order) s

/-- REARM ORDER (R33). -/
def takeRearmOrder (order : Byte) (s : State) : Taken :=
  onOrder order s fun o =>
    if (s.order o).state = .stalled then
      .done (wake (s.setOrder o { s.order o with state := .ready, retriesLeft := (s.order o).retryLimit }))
    else .refuse s .state

def execRearmOrder (p : Port) (order : Byte) (s : State) : Host.Outcome State Fault Refusal :=
  request (.rearmOrder p order) p (takeRearmOrder order) s

/-- The finished states of an order (section 2.2). -/
def OrderState.finished : OrderState → Bool
  | .done | .short | .withdrawn => true
  | .free | .ready | .active | .stalled => false

/-- RELEASE ORDER (R34). -/
def takeReleaseOrder (order : Byte) (s : State) : Taken :=
  onOrder order s fun o =>
    if !(s.order o).state.finished then .refuse s .state
    else if (s.order o).inTransit ≠ 0 ∨ (s.order o).granted ≠ 0 then .refuse s .inTransit
    else .done (s.setOrder o Order.free)

def execReleaseOrder (p : Port) (order : Byte) (s : State) : Host.Outcome State Fault Refusal :=
  request (.releaseOrder p order) p (takeReleaseOrder order) s

/-- The place of an order in its hold's queue, counted from 1; absent when it stands in none (R35). -/
def State.queuePlace (s : State) (o : OrderId) : Option Nat :=
  (s.order o).hold.bind fun h => if (s.queue h).contains o then some ((s.queue h).idxOf o + 1) else none

/-- The reply to READ ORDER (R35): for a FREE slot every field but the state is absent. -/
def orderReport (o : OrderId) (s : State) : List Byte :=
  let r := s.order o
  let live := r.state != .free
  let field (f : List Byte) : List Byte := opt id (if live then some f else none)
  field (orderByte o) ++ u8 r.state.place ++ field (u16 r.lot) ++ opt holdByte r.hold ++ field (u32 r.target) ++
    field (u32 r.delivered) ++ field (u32 r.inTransit) ++ field (u16 r.granted) ++ field (u32 r.carriedIn) ++
    opt (fun x => u8 x.1.place ++ u8 x.2.place) r.spot ++ field (yes r.cont) ++ field (yes r.notify) ++
    field (u8 r.retryLimit) ++ field (u8 r.retriesLeft) ++ opt (fun c => u8 c.place) r.lastEnd ++
    opt (fun k => u8 k.place) r.lastFault ++ field (u32 r.remaining) ++ opt u8 (s.queuePlace o)

/-- READ ORDER (R35). -/
def takeReadOrder (order : Byte) (s : State) : Taken :=
  match orderOf order with
  | none => .refuse s .badField
  | some o => .done s (orderReport o s)

def execReadOrder (p : Port) (order : Byte) (s : State) : Host.Outcome State Fault Refusal :=
  request (.readOrder p order) p (takeReadOrder order) s

/-! ### The pass list (section 2.7) -/

/-- The staged list edited, and committed at once in STOPPED, HELD or COMPLETE; a commit that changes a chain in effect is a wake
event (R37, R56). -/
def editPasses (staged : Vector (List HoldId) 12) (s : State) : State :=
  let t := { s with passes.staged := staged, passes.pendingEdit := true }
  match s.sched.state with
  | .stopped | .held | .complete => if staged = s.passes.inEffect then commitPasses t else wake (commitPasses t)
  | .seeking | .travelling | .pouring | .paused | .draining | .halted => t

/-- SET PASS (R38). -/
def takeSetPass (pass : Byte) (holds : List Byte) (s : State) : Taken :=
  whileOpen ((passOf pass).bind fun n => (holdListOf holds).map fun hs => (n, hs)) s fun x =>
    let t := editPasses (s.passes.staged.set x.1 x.2) s
    .done t (yes t.passes.pendingEdit)

def execSetPass (p : Port) (pass : Byte) (holds : List Byte) (s : State) : Host.Outcome State Fault Refusal :=
  request (.setPass p pass holds) p (takeSetPass pass holds) s

/-- The pass a CLEAR PASS names: one of the twelve, or all of them for 0 (R39). -/
def clearPassOf (pass : Byte) : Option (Option PassId) := if pass = 0 then some none else (passOf pass).map some

/-- CLEAR PASS (R39). -/
def takeClearPass (pass : Byte) (s : State) : Taken :=
  whileOpen (clearPassOf pass) s fun which =>
    let staged := match which with
      | some n => s.passes.staged.set n []
      | none => Vector.replicate 12 []
    let t := editPasses staged s
    .done t (yes t.passes.pendingEdit)

def execClearPass (p : Port) (pass : Byte) (s : State) : Host.Outcome State Fault Refusal :=
  request (.clearPass p pass) p (takeClearPass pass) s

/-- READ PASS (R40): IN_EFFECT 0, STAGED 1. -/
def takeReadPass (pass selector : Byte) (s : State) : Taken :=
  match passOf pass, flagOf selector with
  | some n, some staged =>
    .done s (yes s.passes.pendingEdit ++ list holdByte (if staged then s.passes.staged[n] else s.passes.inEffect[n]))
  | _, _ => .refuse s .badField

def execReadPass (p : Port) (pass selector : Byte) (s : State) : Host.Outcome State Fault Refusal :=
  request (.readPass p pass selector) p (takeReadPass pass selector) s

end Sys2Proof.Machine
end

