-- ==== Sys2Proof/Machine/DustMonitor.lean ====
section
/-! DEFINITION. The dust monitor: samples, faults, effective levels and what they bring about, lockouts, the horn (chapter 9). -/

namespace Sys2Proof.Machine

/-! ### Classification of a sample (R151, R152) -/

/-- A value of 10,000 or above is the sensor's fault code (R150). -/
def isFaultCode (v : Nat) : Bool := 10000 ≤ v

/-- A sample lies in the up band of a state (R151). -/
def inUpBand (c : ChannelSettings) (st : ChannelState) (v : Nat) : Bool :=
  match st with
  | .normal => c.warnOn ≤ v
  | .warn => c.stopOn ≤ v
  | .stop | .fault => false

/-- A sample lies in the down band of a state (R151). -/
def inDownBand (c : ChannelSettings) (st : ChannelState) (v : Nat) : Bool :=
  match st with
  | .warn => v < c.warnOff
  | .stop => v < c.stopOff
  | .normal | .fault => false

/-- The state a completed rise leads to (R151). -/
def risesTo (c : ChannelSettings) (st : ChannelState) (v : Nat) : ChannelState :=
  match st with
  | .normal => if c.stopOn ≤ v then .stop else .warn
  | .warn => .stop
  | .stop => .stop
  | .fault => .fault

/-- The state a completed fall leads to (R151). -/
def fallsTo : ChannelState → ChannelState
  | .normal => .normal
  | .warn => .normal
  | .stop => .warn
  | .fault => .fault

/-- A valid sample classified in NORMAL, WARN or STOP (R151); every change of state clears both counts. -/
def ChannelRec.classify (c : ChannelSettings) (v : Nat) (r : ChannelRec) : ChannelRec :=
  if inUpBand c r.state v then
    if c.up ≤ r.up + 1 then { r with state := risesTo c r.state v, up := 0, down := 0 }
    else { r with up := r.up + 1, down := 0 }
  else if inDownBand c r.state v then
    if c.down ≤ r.down + 1 then { r with state := fallsTo r.state, up := 0, down := 0 }
    else { r with up := 0, down := r.down + 1 }
  else { r with up := 0, down := 0 }

/-- A channel in FAULT with a reason: counts cleared, the stale timer stopped (R152). -/
def ChannelRec.fail (why : ChannelReason) (r : ChannelRec) : ChannelRec :=
  { r with state := .fault, up := 0, down := 0, staleAt := none, reason := some why }

/-- A channel that a valid sample takes out of FAULT (R152). -/
def ChannelRec.recover (r : ChannelRec) : ChannelRec :=
  match r.state with
  | .fault => { r with state := .normal, up := 0, down := 0, reason := none }
  | .normal | .warn | .stop => r

/-- An arrival applied to a channel's record (R150, steps 1 to 4). -/
def ChannelRec.sampled (now : Time) (c : ChannelSettings) (v : Nat) (r : ChannelRec) : ChannelRec :=
  let t := { r with sample := v, lastArrival := some now }
  if isFaultCode v then t.fail .code
  else { t.recover.classify c v with staleAt := some (now + Config.dustStaleTime) }

/-! ### Levels handed on (R153 to R159) -/

/-- A channel other than HEAD stands at effective level STOP: the DUST_PLANT condition (R157). -/
def State.dustPlant (s : State) : Bool :=
  s.level .transfer == .stop || s.level .gallery == .stop || s.level .tower == .stop || s.level .apron == .stop ||
    s.level .extract == .stop

/-- Some channel has effective level WARN or STOP: the beacon is on (R158). -/
def State.beaconOn (s : State) : Bool :=
  s.level .head != .normal || s.level .transfer != .normal || s.level .gallery != .normal || s.level .tower != .normal ||
    s.level .apron != .normal || s.level .extract != .normal

/-- The lockout a HEAD entry into STOP places on a hold expires here (R154). -/
def State.lockoutEnd (s : State) : Time := s.now + s.settings.lockoutTime * 1000

/-- The lockouts restarted over which the spout hangs (R155). -/
def restartLockouts (s : State) : State :=
  { s with
    holds := tabulate fun h =>
      if s.overHold h && (s.hold h).lockout.isSome then { s.hold h with lockout := some s.lockoutEnd } else s.hold h }

/-- HEAD has entered STOP (R154, R155): the active order's hold is locked out and its pour ends YIELD; with no pour, the lockouts
under the spout restart. -/
def headStops (s : State) : State :=
  match s.pourHold with
  | some h => exclusionFormed s.exclusion (s.setHold h { s.hold h with lockout := some s.lockoutEnd })
  | none => restartLockouts s

/-- The DUST_PLANT condition formed anew, with the pause reason that follows it (R157). -/
def formDustPlant (s : State) : State :=
  match s.dustPlant, s.pour.reasons.dust with
  | true, false => addReason .dust s
  | false, true => removeReason .dust s
  | true, true | false, false => s

/-- A channel's effective level entered STOP. -/
def entersStop (before after : Level) : Bool := before != .stop && after == .stop

/-- A channel's effective level entered or left WARN. -/
def crossesWarn (before after : Level) : Bool := (before == .warn) != (after == .warn)

/-- What an event on channel `c` hands on, in the order of R153; `before` and `level` are the channel's state and effective level
before the event. -/
def handOn (c : Channel) (before : ChannelState) (level : Level) (s : State) : State :=
  let after := s.level c
  let t := if c = .head ∧ entersStop level after then headStops s else s
  let t := if c = .head ∧ crossesWarn level after then settle (recomputeTravel true t) else t
  let t := formDustPlant t
  let t := { t with dust.beacon := t.beaconOn }
  let t := if entersStop level after then { t with dust.hornOn := true } else t
  if (s.channel c).state = before then t else raise .dust t

/-- An event on a channel: a change, then what it hands on (R153). -/
def channelEvent (c : Channel) (f : State → State) (s : State) : State :=
  handOn c (s.channel c).state (s.level c) (f s)

/-- A sample arrival (R150). -/
def sampleArrived (c : Channel) (v : Nat) (s : State) : State :=
  channelEvent c
    (fun t => t.setChannel c ((t.channel c).sampled t.now (t.settings.channels.get c) v)) s

def execDustSampleArrival (c : Channel) (value : BitVec 16) (s : State) : Host.Outcome State Fault Refusal :=
  event (sampleArrived c value.toNat) s

/-- The stale timer of a channel has run out (R152); nothing where it is stopped. -/
def channelStale (c : Channel) (s : State) : State :=
  match (s.channel c).staleAt with
  | some t => channelEvent c (fun u => u.setChannel c ((u.channel c).fail .stale)) (reachTime t s)
  | none => s

def execDustStaleExpiry (c : Channel) (s : State) : Host.Outcome State Fault Refusal := event (channelStale c) s

/-! ### Lockouts and the horn -/

/-- The lockout of a hold expires (R155); nothing where none is pending. -/
def lockoutExpired (h : HoldId) (s : State) : State :=
  match (s.hold h).lockout with
  | some t =>
    let u := reachTime t s
    exclusionFormed u.exclusion (u.setHold h { u.hold h with lockout := none })
  | none => s

def execLockoutExpiry (h : HoldId) (s : State) : Host.Outcome State Fault Refusal := event (lockoutExpired h) s

/-- The horn state: SOUNDING 0, SILENT 1 (R159). -/
def hornByte (on : Bool) : List Byte := u8 (if on then 0 else 1)

/-- SILENCE HORN (R159). -/
def takeSilenceHorn (s : State) : Taken := .done { s with dust.hornOn := false } (hornByte false)

def execSilenceHorn (p : Port) (s : State) : Host.Outcome State Fault Refusal :=
  request (.silenceHorn p) p takeSilenceHorn s

end Sys2Proof.Machine
end

