-- ==== Sys2Proof/Machine/Pour.lean ====
section
/-! DEFINITION. The pause requests, TOP OFF, the belt confirm input and the emergency stop (chapter 4). -/

namespace Sys2Proof.Machine

/-- A pause request: STATE while no vessel is open; otherwise the reason is added or removed, and the reply gives the set after
the request (R65, R66). -/
def takeReason (c : PauseReason) (add : Bool) (s : State) : Taken :=
  whileOpen (some ()) s fun _ =>
    let t := if add then addReason c s else removeReason c s
    .done t t.pour.reasons.byte

/-- PAUSE (R65). -/
def execPause (p : Port) (s : State) : Host.Outcome State Fault Refusal := request (.pause p) p (takeReason .cab true) s

/-- CONTINUE (R65). -/
def execContinuePour (p : Port) (s : State) : Host.Outcome State Fault Refusal :=
  request (.continuePour p) p (takeReason .cab false) s

/-- HOLD FEED (R66). -/
def execHoldFeed (p : Port) (s : State) : Host.Outcome State Fault Refusal :=
  request (.holdFeed p) p (takeReason .ship true) s

/-- RELEASE FEED (R66). -/
def execReleaseFeed (p : Port) (s : State) : Host.Outcome State Fault Refusal :=
  request (.releaseFeed p) p (takeReason .ship false) s

/-- The conditions under which TOP OFF is taken (R74). -/
def State.mayTopOff (s : State) : Bool :=
  s.vesselOpen &&
    (s.sched.state == .travelling || s.sched.state == .pouring ||
      (s.sched.state == .paused && s.pour.returnState != some .draining)) &&
    (s.pourOrder.any fun o => !(s.order o).isVisit)

/-- TOP OFF (R74). -/
def takeTopOff (s : State) : Taken :=
  if s.mayTopOff then .done (orderlyEnd .topped s) else .refuse s .state

def execTopOff (p : Port) (s : State) : Host.Outcome State Fault Refusal := request (.topOff p) p takeTopOff s

/-- The belt running confirm input at a new level (R64); the level stands while reset is asserted too. -/
def confirmChanged (asserted : Bool) (s : State) : State :=
  let t := { s with inputs.beltConfirm := asserted }
  if s.inReset then t
  else
    match s.pour.supervision, asserted with
    | .starting, true => { t with pour.supervision := .running, pour.confirmDeadline := none }
    | .running, false => beltFailure t
    | .off, _ | .starting, false | .running, true => t

def execBeltConfirmChange (asserted : Bool) (s : State) : Host.Outcome State Fault Refusal :=
  .next (confirmChanged asserted s)

/-- The confirm deadline of a STARTING belt has passed (R64). -/
def confirmExpired (s : State) : State :=
  match s.pour.supervision, s.pour.confirmDeadline with
  | .starting, some t => beltFailure (reachTime t s)
  | _, _ => s

def execConfirmDeadlineExpiry (s : State) : Host.Outcome State Fault Refusal := event confirmExpired s

/-- What an assertion of the emergency stop input brings about (R79): any pour ends with YIELD, all axes stop, the horn sounds, the
halt cause ESTOP arises. -/
def emergencyStop (s : State) : State :=
  { stopAxes (haltWith .yield .estop s) with dust.hornOn := true }

/-- The emergency stop input is asserted (R79); the level alone is noted while reset is asserted. -/
def execEmergencyStopAssert (s : State) : Host.Outcome State Fault Refusal :=
  let t := { s with inputs.eStop := true }
  .next (if s.inReset then t else emergencyStop t)

/-- The emergency stop input is released: the standing condition of ESTOP ends, nothing else (R79). -/
def execEmergencyStopRelease (s : State) : Host.Outcome State Fault Refusal :=
  .next { s with inputs.eStop := false }

end Sys2Proof.Machine
end

