-- ==== Sys2Proof/Machine/Transit.lean ====
section
/-! DEFINITION. The belt pulse and the deliveries of the belt transit queue (chapter 8). -/

namespace Sys2Proof.Machine

/-- The travel of a record: the counter less its stamp, modulo 2^32 (R138). -/
def Belt.travel (b : Belt) (t : Transit) : Nat := (b.counter - t.stamp).toNat

/-- Where a delivery falls and whether it spills (R139): the active hold under an asserted run line; else the lowest declared hold
whose opening the spout is in; else the last pour hold, with SPILL. -/
def State.receiving (s : State) : Option HoldId × Bool :=
  if s.pour.runLine then (s.pourHold, false)
  else
    match s.holdUnder with
    | some h => (some h, false)
    | none => (s.belt.lastHold, true)

/-- An allocation list grown by a delivery (R142): the entry for the hold grows and keeps its place, a new one joins the tail; a
net of 0 kg changes nothing. -/
def allocate (h : HoldId) (net : Nat) (allocs : List (HoldId × Nat)) : List (HoldId × Nat) :=
  if net = 0 then allocs
  else if allocs.any fun e => e.1 == h then allocs.map fun e => if e.1 = h then (e.1, e.2 + net) else e
  else allocs ++ [(h, net)]

/-- SPILL raised and the last spill written (R140). -/
def spillAt (h : HoldId) (r : Transit) (s : State) : State :=
  raise .spill { s with belt.lastSpill := some ⟨r.batch, r.lot, r.net, h, s.belt.counter⟩ }

/-- The lot's allocation for the receiving hold grown (R142, step 2). -/
def allocateLot (h : HoldId) (r : Transit) (s : State) : State :=
  match s.lotSlot r.lot with
  | some l => s.setLot l { s.lot l with allocs := allocate h r.net (s.lot l).allocs }
  | none => s

/-- The source order's in_transit_kg lowered (R142, step 3). -/
def creditSource (r : Transit) (s : State) : State :=
  s.setOrder r.order { s.order r.order with inTransit := (s.order r.order).inTransit - r.net }

/-- The active order's delivered_kg or carried_in_kg grown (R142, step 4). -/
def creditActive (r : Transit) (s : State) : State :=
  match s.pourOrder with
  | none => s
  | some o =>
    if o = r.order then s.setOrder o { s.order o with delivered := (s.order o).delivered + r.net }
    else s.setOrder o { s.order o with carriedIn := (s.order o).carriedIn + r.net }

/-- The charges of a delivery into hold `h` (R142). -/
def chargeDelivery (h : HoldId) (r : Transit) (s : State) : State :=
  creditActive r (creditSource r (allocateLot h r
    (s.setHold h { s.hold h with loaded := (s.hold h).loaded + r.net })))

/-- The charges of the delivery of the head record, with SPILL where it falls outside every opening (R139, R140, R142). A delivery
with no hold to fall into, which no run reaches (notes/assumptions/13.md), charges the orders alone. -/
def landRecord (r : Transit) (s : State) : State :=
  match s.receiving with
  | (some h, spills) => chargeDelivery h r (if spills then spillAt h r s else s)
  | (none, _) => creditActive r (creditSource r s)

/-- The delivery of the record at the head, with the further effects of R143: the clearance recompute, the finalisation test, the
lot's drain test. -/
def deliver (r : Transit) (rest : List Transit) (s : State) : State :=
  drainTest r.lot (finalisationTest (recompute (landRecord r { s with belt.records := rest })))

/-- The delivery test (R138), at most as many turns as there are records. -/
def deliverDue : Nat → State → State
  | 0, s => s
  | n + 1, s =>
    match s.belt.records with
    | [] => s
    | r :: rest =>
      if s.belt.travel r < s.settings.beltLength then s else deliverDue n (deliver r rest s)

/-- A belt pulse (R137). -/
def beltPulsed (s : State) : State :=
  let t := { s with belt.counter := s.belt.counter + BitVec.ofNat 32 s.settings.pulseTravel }
  deliverDue t.belt.records.length t

def execBeltPulse (s : State) : Host.Outcome State Fault Refusal := event beltPulsed s

end Sys2Proof.Machine
end

