-- ==== Sys2Proof/Machine/Weighing.lean ====
section
/-! DEFINITION. The weighing unit: polls, grants, batch reports and scale readiness (chapter 7). -/

namespace Sys2Proof.Machine

/-! ### Scale readiness (section 7.2) -/

/-- SCALE STATUS (R120): the readiness carried, and the grant the scale still owes. -/
def takeScaleStatus (readiness : Byte) (s : State) : Taken :=
  match readinessOf readiness with
  | none => .refuse s .badField
  | some ready =>
    .done { s with weigh.ready := ready }
      (u8 (if ready then 0 else 1) ++ opt (fun g => u16 g.batch ++ orderByte g.order ++ u16 g.size) s.weigh.grant)

def execScaleStatus (p : Port) (readiness : Byte) (s : State) : Host.Outcome State Fault Refusal :=
  request (.scaleStatus p readiness) p (takeScaleStatus readiness) s

/-! ### Polls and grants (section 7.3) -/

/-- The WAIT reasons, in the order of R175. -/
inductive WaitReason where
  | notPouring
  | beltNotRunning
  | grantOutstanding
  | beltFull
  | scaleNotReady
  | pourEnded
deriving DecidableEq, Repr

/-- The place of a WAIT reason in its list. -/
def WaitReason.place : WaitReason → Nat
  | .notPouring => 0
  | .beltNotRunning => 1
  | .grantOutstanding => 2
  | .beltFull => 3
  | .scaleNotReady => 4
  | .pourEnded => 5

/-- The first condition of R71 that fails, none when a grant is permitted (R121). -/
def State.waitReason (s : State) : Option WaitReason :=
  if s.sched.state ≠ .pouring then some .notPouring
  else if s.pour.supervision ≠ .running then some .beltNotRunning
  else if s.weigh.grant.isSome then some .grantOutstanding
  else if Config.maxRecords ≤ s.belt.records.length then some .beltFull
  else if !s.weigh.ready then some .scaleNotReady
  else none

/-- B_nom′: the nominal batch size, halved and rounded down to the division while the choke applies (R122). -/
def State.batchSize (s : State) : Nat :=
  if s.choke then roundDown s.settings.division (s.settings.bNom / 2) else s.settings.bNom

/-- The vessel headroom (R122). -/
def State.headroom (s : State) : Nat :=
  Config.vesselCapacity - s.totalLoaded - netWhere (fun _ => true) s.belt.records

/-- The size G of a grant to order `o` in hold `h` (R122). -/
def State.grantSize (s : State) (o : OrderId) (h : HoldId) : Nat :=
  roundDown s.settings.division
    (min (min s.batchSize (s.order o).remaining) (min (s.room h) s.headroom))

/-- The next batch number after one is assigned: 1 follows 65,535 (R124). -/
def nextBatchNumber (n : Nat) : Nat := if n < 65535 then n + 1 else 1

/-- The grant record for order `o` in hold `h` (R123, step 1). -/
def State.newGrant (s : State) (o : OrderId) (h : HoldId) : Grant where
  batch := s.weigh.nextBatch
  order := o
  lot := (s.order o).lot
  hold := h
  size := s.grantSize o h
  choked := s.choke

/-- A grant issued (R123, steps 1 to 3). -/
def issueGrant (o : OrderId) (h : HoldId) (s : State) : State :=
  State.setOrder
    { s with weigh.grant := some (s.newGrant o h), weigh.nextBatch := nextBatchNumber s.weigh.nextBatch }
    o { s.order o with granted := s.grantSize o h }

/-- The items of a WAIT answer: WAIT 1, the reason, and the outstanding grant's batch number and size (R121). -/
def waitItems (r : WaitReason) (s : State) : List Byte :=
  u8 1 ++ u8 r.place ++ opt (fun g => u16 g.batch ++ u16 g.size) s.weigh.grant

/-- A permitted poll (R122, R123, R73): a grant of at least B_min, or the orderly end of the pour. GRANT is 0. -/
def permittedPoll (o : OrderId) (h : HoldId) (s : State) : Taken :=
  if s.settings.bMin ≤ s.grantSize o h then
    .done (issueGrant o h s) (u8 0 ++ u16 s.weigh.nextBatch ++ u16 (s.grantSize o h))
  else
    let cause := if (s.order o).remaining < s.settings.bMin then EndCause.complete else .topped
    .done (orderlyEnd cause s) (waitItems .pourEnded s)

/-- NEXT BATCH (R121). -/
def takeNextBatch (s : State) : Taken :=
  match s.waitReason, s.pourOrder, s.pourHold with
  | some r, _, _ => .done s (waitItems r s)
  | none, some o, some h => permittedPoll o h s
  | none, _, _ => .done s (waitItems .notPouring s)

def execNextBatch (p : Port) (s : State) : Host.Outcome State Fault Refusal :=
  request (.nextBatch p) p takeNextBatch s

/-! ### Batch reports (section 7.4) -/

/-- The net of R127 before the capacity test, from gross and tare counts. -/
def Settings.netOf (v : Settings) (gross tare : Nat) : Nat :=
  if gross < tare then 0
  else
    (2 * ((gross - tare) * v.calMul) + v.calDiv * v.division) / (2 * v.calDiv * v.division) * v.division

/-- The net charged: at most CAP_KG (R128). -/
def Settings.netCharged (v : Settings) (gross tare : Nat) : Nat := min (v.netOf gross tare) v.capKg

/-- The uncertified reasons of an accepted report without the FAULT flag (R128). -/
def Settings.reasonsOf (v : Settings) (gross tare : Nat) (unstable : Bool) : Uncertified where
  negative := gross < tare
  overCounts := v.capCounts < gross
  overKg := v.capKg < v.netOf gross tare
  unstable := unstable
  scaleFault := false

/-- The reasons of a report with the FAULT flag (R129). -/
def Uncertified.faulted : Uncertified := ⟨false, false, false, false, true⟩

/-- Some reason applies: the batch is uncertified (R128). -/
def Uncertified.any (u : Uncertified) : Bool :=
  u.negative || u.overCounts || u.overKg || u.unstable || u.scaleFault

/-- The batch count of a lot grown by 1 (R130); past 2^32 - 1 the manual gives no value and it is free
(notes/assumptions/12.md). -/
def countUp (n : Nat) : Nat := if n + 1 < 2 ^ 32 then n + 1 else (Config.batchCount n).toNat

/-- A lot account charged with a reported batch (R130, R164). -/
def Lot.charge (batch net : Nat) (uncertified : Bool) (r : Lot) : Lot :=
  { r with
    weighed := r.weighed + net
    uncertified := if uncertified then r.uncertified + net else r.uncertified
    count := countUp r.count
    first := if r.count = 0 then some batch else r.first
    last := some batch }

/-- The account of a lot number changed; nothing where no slot carries it. -/
def onLot (number : Nat) (f : Lot → Lot) (s : State) : State :=
  match s.lotSlot number with
  | some l => s.setLot l (f (s.lot l))
  | none => s

/-- The transit record of an accepted report (R130, R136). -/
def State.newTransit (s : State) (g : Grant) (net : Nat) (uncertified : Bool) : Transit :=
  ⟨g.batch, g.lot, g.order, net, uncertified, s.belt.counter⟩

/-- An accepted report charged to the lot accounts, the order pool and the belt transit queue (R130). -/
def chargeBatch (g : Grant) (net : Nat) (uncertified : Bool) (s : State) : State :=
  let t := onLot g.lot (Lot.charge g.batch net uncertified) s
  let t := t.setOrder g.order
    { t.order g.order with granted := 0, inTransit := (t.order g.order).inTransit + net }
  { t with belt.records := t.belt.records ++ [s.newTransit g net uncertified] }

/-- An accepted report written into the weighing unit record and charged (R130). -/
def acceptReport (g : Grant) (gross tare net : Nat) (reasons : Uncertified) (s : State) : State :=
  let t := chargeBatch g net reasons.any s
  let t := { t with
    weigh.grant := none
    weigh.last := some ⟨g.batch, gross, tare, .accepted g.order g.lot net reasons⟩ }
  if reasons.any then raise .scaleAlert t else t

/-- A report refused with NO_GRANT or MISMATCH: the last report, SCALE_ALERT and the halt cause SCALE_PROTOCOL, which ends any
pour with YIELD (R126). -/
def refuseReport (batch gross tare : Nat) (o : ReportOutcome) (r : Result) (s : State) : Taken :=
  ⟨haltWith .yield .scaleProtocol (raise .scaleAlert { s with weigh.last := some ⟨batch, gross, tare, o⟩ }), r, []⟩

/-- An accepted report that carries the FAULT flag (R129): charged at the granted size, the scale NOT_READY, and the pour of the
grant's order, if active, ended FAULT, kind SCALE. -/
def faultReport (g : Grant) (gross tare : Nat) (s : State) : State :=
  let t := acceptReport g gross tare g.size .faulted { s with weigh.ready := false }
  if s.pourOrder = some g.order then immediateEnd (.fault .scale) .walk t else t

/-- An accepted report (R127 to R130); the reply gives the net charged and the reasons. -/
def takeAccepted (g : Grant) (gross tare : Nat) (unstable fault : Bool) (s : State) : Taken :=
  if fault then .done (faultReport g gross tare s) (u16 g.size ++ Uncertified.faulted.byte)
  else
    .done
      (acceptReport g gross tare (s.settings.netCharged gross tare) (s.settings.reasonsOf gross tare unstable) s)
      (u16 (s.settings.netCharged gross tare) ++ (s.settings.reasonsOf gross tare unstable).byte)

/-- The field checks of a report: a batch number that is not 0, counts up to 16,777,215 (notes/assumptions/20.md), no flag but
UNSTABLE and FAULT (R126). -/
def reportFits (batch : BitVec 16) (gross tare : BitVec 32) (flags : Byte) : Bool :=
  batch != 0 && gross.toNat ≤ 16777215 && tare.toNat ≤ 16777215 && flags &&& 0xFC == 0

/-- BATCH REPORT (R126): UNSTABLE is bit 0 of the flags, FAULT bit 1. -/
def takeBatchReport (batch : BitVec 16) (gross tare : BitVec 32) (flags : Byte) (s : State) : Taken :=
  if !reportFits batch gross tare flags then .refuse s .badField
  else
    match s.weigh.grant with
    | none => refuseReport batch.toNat gross.toNat tare.toNat .noGrant .noGrant s
    | some g =>
      if g.batch ≠ batch.toNat then refuseReport batch.toNat gross.toNat tare.toNat .mismatch .mismatch s
      else takeAccepted g gross.toNat tare.toNat (flags.getLsbD 0) (flags.getLsbD 1) s

def execBatchReport (p : Port) (batch : BitVec 16) (gross tare : BitVec 32) (flags : Byte) (s : State) :
    Host.Outcome State Fault Refusal :=
  request (.batchReport p batch gross tare flags) p (takeBatchReport batch gross tare flags) s

end Sys2Proof.Machine
end

