-- ==== Sys2Proof/Machine/Ports.lean ====
section
/-! DEFINITION. The port unit's own requests, READ EVENTS, SET EVENT ENABLE and READ STATUS (sections 11.3, 11.4), and reset and
start-up (section 11.6). -/

namespace Sys2Proof.Machine

/-! ### Event flags (section 11.3) -/

/-- READ EVENTS (R180): the port's flag set, which it empties. -/
def takeReadEvents (p : Port) (s : State) : Taken :=
  .done (s.setPort p ((s.port p).withFlags 0)) (bytes16 (s.port p).flags)

def execReadEvents (p : Port) (s : State) : Host.Outcome State Fault Refusal :=
  request (.readEvents p) p (takeReadEvents p) s

/-- SET EVENT ENABLE (R181): BAD_FIELD where a bit stands for no flag. -/
def takeSetEventEnable (p : Port) (flags : BitVec 16) (s : State) : Taken :=
  if flags &&& ~~~allFlags != 0 then .refuse s .badField
  else .done (s.setPort p ((s.port p).withEnables flags)) (bytes16 flags)

def execSetEventEnable (p : Port) (flags : BitVec 16) (s : State) : Host.Outcome State Fault Refusal :=
  request (.setEventEnable p flags) p (takeSetEventEnable p flags) s

/-! ### The sections of READ STATUS (R182) -/

/-- GENERAL: marker VALID 0, INVALID 1; the rates are those the ports run at (notes/assumptions/34.md). -/
def statusGeneral (s : State) : List Byte :=
  bytes16 s.ship.vessel ++ yes s.vesselOpen ++ u8 (if s.store.valid then 0 else 1) ++ u8 s.store.cond.place ++
    u32 s.ports.station.rate ++ u32 s.ports.cab.rate ++ u32 s.ports.ship.rate ++ u32 s.ports.scale.rate

/-- An order id, 0 for none. -/
def orderOrZero (o : Option OrderId) : List Byte :=
  match o with
  | some o => orderByte o
  | none => u8 0

/-- SCHEDULE (R59, R30): flags CLEAR 0, SET 1. -/
def statusSchedule (s : State) : List Byte :=
  u8 s.sched.state.place ++ u8 (s.sched.pass.val + 1) ++ u8 (s.sched.pos.val + 1) ++ yes s.sched.progress ++
    s.sched.held.toList.flatMap (opt fun c => u8 c.place) ++ s.sched.halts.byte ++ orderOrZero s.sched.active ++
    yes s.sched.stepFlag ++ orderOrZero s.lastEnded

/-- POUR (R60): run line deasserted 0, asserted 1. -/
def statusPour (s : State) : List Byte :=
  s.pour.reasons.byte ++ opt (fun x => u8 x.place) s.pour.returnState ++ opt (fun x => u8 x.place) s.pour.endCause ++
    yes s.pour.runLine ++ u8 s.pour.supervision.place

/-- The fields of an axis record. -/
def AxisRec.bytes (now : Time) (r : AxisRec) : List Byte :=
  u8 r.state.place ++ opt s32 r.position ++ opt s16 r.target ++ opt (fun x => u8 x.place) r.kind ++
    u8 (classPlace r.commanded) ++ u8 (classPlace r.confirmed) ++ opt (remaining now) r.classDeadline ++
    opt (remaining now) r.moveDeadline ++ opt (fun x => u8 x.place) r.reason

/-- SPOUT (R107): authority AUTO 0, MANUAL 1. -/
def statusSpout (s : State) : List Byte :=
  s.axes.gantry.bytes s.now ++ s.axes.reach.bytes s.now ++ s.axes.spout.bytes s.now ++ yes s.spout.manual ++
    u8 s.spout.phase.place ++ opt (fun x => u8 x.place) s.spout.cond ++ opt s16 s.spout.height ++ opt s32 s.spout.spotX ++
    opt s16 s.spout.spotY

/-- The figures of the active hold (R118). -/
def holdFigures (s : State) (h : HoldId) : List Byte :=
  u16 (s.freeboard h) ++ u16 (s.deck h) ++ u16 (s.top h) ++ s16 (s.pourHeight h)

/-- CLEARANCE (R118). It carries the travel height in use and the travel condition, which R118 lists and the table of R182 gives to
SPOUT alone: DESIGN CHOICE (notes/assumptions/9.md). -/
def statusClearance (s : State) : List Byte :=
  u16 s.river.level ++ elapsed s.now s.river.lastValid ++ yes s.river.stale ++ opt u32 s.ship.tpc ++
    u32 s.ship.loadedAtReport ++ u32 s.totalLoaded ++ u32 s.sinkage ++ yes s.choke ++ opt (holdFigures s) s.pourHold ++
    opt s16 s.spout.height ++ opt (fun x => u8 x.place) s.spout.cond

/-- A grant record. -/
def Grant.bytes (g : Grant) : List Byte :=
  u16 g.batch ++ orderByte g.order ++ u16 g.lot ++ holdByte g.hold ++ u16 g.size ++ yes g.choked

/-- The outcome of a report: ACCEPTED 0, NO_GRANT 1, MISMATCH 2, and what an accepted one holds further. -/
def ReportOutcome.bytes : ReportOutcome → List Byte
  | .accepted o lot net reasons => u8 0 ++ u8 1 ++ orderByte o ++ u16 lot ++ u16 net ++ reasons.byte
  | .noGrant => u8 1 ++ u8 0
  | .mismatch => u8 2 ++ u8 0

/-- A report summary. -/
def Report.bytes (r : Report) : List Byte := u16 r.batch ++ u32 r.gross ++ u32 r.tare ++ r.outcome.bytes

/-- WEIGHING (R134). -/
def statusWeighing (s : State) : List Byte :=
  u8 (if s.weigh.ready then 0 else 1) ++ opt Grant.bytes s.weigh.grant ++ u16 s.weigh.nextBatch ++
    opt Report.bytes s.weigh.last ++ yes s.choke ++ u16 s.batchSize

/-- A transit record with its present travel. -/
def transitBytes (b : Belt) (t : Transit) : List Byte :=
  u16 t.batch ++ u16 t.lot ++ orderByte t.order ++ u16 t.net ++ yes t.uncertified ++ bytes32 t.stamp ++ u16 (b.travel t)

/-- A spill summary. -/
def Spill.bytes (x : Spill) : List Byte :=
  u16 x.batch ++ u16 x.lot ++ u16 x.net ++ holdByte x.hold ++ bytes32 x.counter

/-- BELT (R147). -/
def statusBelt (s : State) : List Byte :=
  list (transitBytes s.belt) s.belt.records ++ bytes32 s.belt.counter ++ opt holdByte s.belt.lastHold ++
    opt Spill.bytes s.belt.lastSpill ++ u8 s.settings.pulseTravel ++ u16 s.settings.beltLength

/-- The place of an effective level: NORMAL, WARN, STOP. -/
def Level.place : Level → Nat
  | .normal => 0
  | .warn => 1
  | .stop => 2

/-- The six channels in the order of their table. -/
def allChannels : List Channel := [.head, .transfer, .gallery, .tower, .apron, .extract]

/-- A channel record with its effective level and the time since its last arrival (R160). -/
def channelBytes (s : State) (c : Channel) : List Byte :=
  let r := s.channel c
  u8 r.state.place ++ u8 r.up ++ u8 r.down ++ u16 r.sample ++ opt (elapsed s.now) r.lastArrival ++
    opt (remaining s.now) r.staleAt ++ opt (fun x => u8 x.place) r.reason ++ u8 (s.level c).place ++
    opt (elapsed s.now) r.lastArrival

/-- The settings of a channel in use (R160). -/
def channelSettingBytes (s : State) (c : Channel) : List Byte :=
  let k := s.settings.channels.get c
  u16 k.warnOn ++ u16 k.warnOff ++ u16 k.stopOn ++ u16 k.stopOff ++ u8 k.up ++ u8 k.down ++ yes k.critical

/-- DUST (R160): beacon on 0, off 1; horn SOUNDING 0, SILENT 1. -/
def statusDust (s : State) : List Byte :=
  allChannels.flatMap (channelBytes s) ++ allChannels.flatMap (channelSettingBytes s) ++ u16 s.settings.lockoutTime ++
    yes s.choke ++ yes s.dustPlant ++ u8 (if s.dust.beacon then 0 else 1) ++ hornByte s.dust.hornOn

/-- The drained value of a lot in the closing queue. -/
def State.drainedOf (s : State) (number : Nat) : Bool := (s.lotSlot number).any fun l => (s.lot l).drained

/-- The number of lot slots in use. -/
def State.slotsInUse (s : State) : Nat := ((List.finRange 16).filter fun l => (s.lot l).state != .free).length

/-- LOTS (R171). -/
def statusLots (s : State) : List Byte :=
  u8 s.slotsInUse ++ list (fun n => u16 n ++ yes (s.drainedOf n)) s.bank.closing ++ u8 s.bank.bills.length ++
    opt u32 (s.bank.bills.head?.map Bill.number) ++ u32 s.bank.nextBill

/-- The items of a section by its place in the table of R182; none for a selector that names no section. -/
def statusSection (selector : Byte) (s : State) : Option (List Byte) :=
  match selector.toNat with
  | 0 => some (statusGeneral s)
  | 1 => some (statusSchedule s)
  | 2 => some (statusPour s)
  | 3 => some (statusSpout s)
  | 4 => some (statusClearance s)
  | 5 => some (statusWeighing s)
  | 6 => some (statusBelt s)
  | 7 => some (statusDust s)
  | 8 => some (statusLots s)
  | _ => none

/-- READ STATUS (R182). -/
def takeReadStatus (selector : Byte) (s : State) : Taken :=
  match statusSection selector s with
  | none => .refuse s .badField
  | some items => .done s items

def execReadStatus (p : Port) (selector : Byte) (s : State) : Host.Outcome State Fault Refusal :=
  request (.readStatus p selector) p (takeReadStatus selector) s

/-! ### Reset and start-up (section 11.6) -/

/-- The outputs held while reset is asserted: run line, beacon, horn and attention lines deasserted, every drive at STOP (R184). -/
def holdOutputs (s : State) : State :=
  { s with
    pour.runLine := false
    dust.beacon := false
    dust.hornOn := false
    axes := s.axes.map fun r => { r with commanded := .stop }
    ports := s.ports.map fun r => { r with attention := false } }

/-- The reset input is asserted (R184). -/
def execReset (s : State) : Host.Outcome State Fault Refusal := .next { holdOutputs s with inReset := true }

/-- The settings a start-up loads: the image of a VALID store, else the defaults (R185, step 1). -/
def Store.loaded (t : Store) : Settings := if t.valid then t.image else Settings.default

/-- A drive fault input found asserted at start-up is an assertion for its axis (R185, step 5). -/
def driveStanding (a : Axis) (s : State) : State := if s.inputs.driveFault.get a then failAxis a .drive s else s

/-- An emergency stop input found asserted at start-up is an assertion (R185, step 5). -/
def stopStanding (s : State) : State := if s.inputs.eStop then emergencyStop s else s

/-- The settings event of a start-up (R185, step 4). -/
def settingsEvent (s : State) : State := if s.store.valid then s else raise .settingsDefault s

/-- Start-up (R185); the clock, the input levels and the queue of commands stand. -/
def startedUp (s : State) : State :=
  let t := State.fresh s.now s.inputs s.store.loaded { s.store with cond := .idle, copying := none } s.pending
  driveStanding .spout (driveStanding .reach (driveStanding .gantry (stopStanding (settingsEvent t))))

def execStartUp (s : State) : Host.Outcome State Fault Refusal := .next (startedUp s)

end Sys2Proof.Machine
end

