-- ==== Sys2Proof/Machine/Schedule.lean ====
section
/-! DEFINITION. The scheduler's requests and its examination (chapter 3). -/

namespace Sys2Proof.Machine

/-- The standing condition of a halt cause that stands in the set still holds (R57). -/
def State.haltStands (s : State) : Bool :=
  let c := s.sched.halts
  (c.estop && s.inputs.eStop) ||
    (c.axis && (s.inputs.driveFault.gantry || s.inputs.driveFault.reach || s.inputs.driveFault.spout)) ||
    (c.belt && s.inputs.beltConfirm)

/-- Every axis in FAULT whose drive fault input is not asserted returned to IDLE (R58, R87). -/
def clearAxisFaults (s : State) : State :=
  let one (r : AxisRec) (line : Bool) : AxisRec :=
    match r.state, line with
    | .fault, false => r.clear s.now
    | _, _ => r
  { s with axes := ⟨one s.axes.gantry s.inputs.driveFault.gantry, one s.axes.reach s.inputs.driveFault.reach,
      one s.axes.spout s.inputs.driveFault.spout⟩ }

/-- The halt causes removed and the axes cleared (R58). -/
def clearHalts (s : State) : State :=
  clearAxisFaults { s with sched.halts := ⟨false, false, false, false⟩ }

/-- START (R42, R58). -/
def takeStart (s : State) : Taken :=
  if !s.vesselOpen || s.inputs.eStop then .refuse s .state
  else
    let t := { s with sched.stepFlag := false }
    match s.sched.state with
    | .stopped => .done (resumeWalk t)
    | .held | .complete => .done (startRound (enterState .seeking t))
    | .halted => if s.haltStands then .refuse s .state else .done (resumeWalk (clearHalts t))
    | .seeking | .travelling | .pouring | .paused | .draining => .refuse s .state

def execStart (p : Port) (s : State) : Host.Outcome State Fault Refusal := request (.start p) p takeStart s

/-- STEP (R43). -/
def takeStep (s : State) : Taken :=
  if s.vesselOpen && !s.inputs.eStop && s.sched.state == .stopped then
    .done (resumeWalk { s with sched.stepFlag := true })
  else .refuse s .state

def execStep (p : Port) (s : State) : Host.Outcome State Fault Refusal := request (.step p) p takeStep s

/-- HALT SCHEDULE (R44): any pour ends with YIELD, all axes stop, the scheduler enters STOPPED. -/
def takeHaltSchedule (s : State) : Taken :=
  match s.sched.state with
  | .stopped | .halted => .refuse s .state
  | .seeking | .held | .complete | .travelling | .pouring | .paused | .draining =>
    if s.pourOrder.isSome then .done (stopAxes (immediateEnd .yield .haltSchedule s))
    else .done (stopSchedule (stopAxes s))

def execHaltSchedule (p : Port) (s : State) : Host.Outcome State Fault Refusal :=
  request (.haltSchedule p) p takeHaltSchedule s

/-- A held cause recorded for a hold, and the cursor moved on (R48). -/
def passOver (h : HoldId) (c : HeldCause) (s : State) : State :=
  moveOn { s with sched.held := s.sched.held.set h (some c) }

/-- The hold at the cursor in the list in effect. -/
def State.holdAtCursor (s : State) : Option HoldId := (s.chain s.sched.pass)[s.sched.pos.val]?

/-- The examination of the position at the cursor, in SEEKING (R48); it cannot come about in another state and changes nothing
there (notes/assumptions/22.md). -/
def examine (s : State) : State :=
  if s.sched.state ≠ .seeking then s
  else
    match s.holdAtCursor with
    | none => moveOn s
    | some h =>
      match s.queue h with
      | [] => moveOn s
      | o :: _ =>
        if (s.order o).state = .ready then
          match s.ineligible h o with
          | none => activate o s
          | some c => passOver h c s
        else passOver h .blocked s

def execExamination (s : State) : Host.Outcome State Fault Refusal := event examine s

end Sys2Proof.Machine
end

