-- ==== Sys2Proof/Machine/Session.lean ====
section
/-! DEFINITION. The vessel session: VESSEL OPEN and VESSEL CLOSE (section 10.7). -/

namespace Sys2Proof.Machine

/-- What both session requests clear (R172, R173): the hold table, the order pool, the pass lists, the scheduler record, the cab's
and the ship's pause reasons and the last pour hold; the vessel code becomes the one given. -/
def clearSession (vessel : BitVec 16) (s : State) : State :=
  { s with
    holds := Vector.replicate 8 Hold.undeclared
    ship := Ship.cleared vessel
    suspension := ⟨0, []⟩
    orders := Vector.replicate 64 Order.free
    queues := Vector.replicate 8 []
    lastEnded := none
    passes := Passes.cleared
    sched := { Sched.cleared with state := s.sched.state }
    pour.reasons := { s.pour.reasons with cab := false, ship := false }
    belt.lastHold := none }

/-- The session cleared, the scheduler STOPPED (R41, R59), MASK_CHANGED raised where the exclusion set changed (R20). -/
def newSession (vessel : BitVec 16) (s : State) : State :=
  let t := enterState .stopped (clearSession vessel s)
  if t.exclusion = s.exclusion then t else raise .maskChanged t

/-- VESSEL OPEN (R172): BAD_FIELD for vessel code 0 (R162), STATE while a vessel is open. -/
def takeVesselOpen (code : BitVec 16) (s : State) : Taken :=
  if code = 0 then .refuse s .badField
  else if s.vesselOpen then .refuse s .state
  else .done (newSession code s)

def execVesselOpen (p : Port) (code : BitVec 16) (s : State) : Host.Outcome State Fault Refusal :=
  request (.vesselOpen p code) p (takeVesselOpen code) s

/-- The conditions of VESSEL CLOSE (R173). -/
def State.mayClose (s : State) : Bool :=
  s.vesselOpen &&
    (s.sched.state == .stopped || s.sched.state == .complete || s.sched.state == .held) &&
    ((List.finRange 16).all fun l => (s.lot l).state == .free) &&
    s.beltClear

/-- VESSEL CLOSE (R173). -/
def takeVesselClose (s : State) : Taken :=
  if s.mayClose then .done (newSession 0 s) else .refuse s .state

def execVesselClose (p : Port) (s : State) : Host.Outcome State Fault Refusal :=
  request (.vesselClose p) p takeVesselClose s

end Sys2Proof.Machine
end

