-- ==== Sys2Proof/Machine/SettingsStore.lean ====
section
/-! DEFINITION. The settings store: the names and ranges of the settings, WRITE SETTING, READ SETTING and the write completion
(section 11.5). -/

namespace Sys2Proof.Machine

/-- A setting by name (R175). -/
inductive SettingName where
  | lower (a : Axis)
  | upper (a : Axis)
  | timeout (a : Axis)
  | tolerance
  | fineZone
  | park
  | travelMargin
  | hatchMargin
  | pourDepth
  | chokeStep
  | bNom
  | bMin
  | capKg
  | capCounts
  | calMul
  | calDiv
  | division
  | pulseTravel
  | beltLength
  | warnOn (c : Channel)
  | warnOff (c : Channel)
  | stopOn (c : Channel)
  | stopOff (c : Channel)
  | upCount (c : Channel)
  | downCount (c : Channel)
  | critical (c : Channel)
  | lockoutTime
  | rate (p : Port)
deriving DecidableEq, Repr

/-- The setting a number names, with the byte for its channel or port (R175); none where it does not exist. -/
def settingOf (number : Byte) (sub : Option Byte) : Option SettingName :=
  match number.toNat, sub with
  | 1, none => some (.lower .gantry)
  | 2, none => some (.upper .gantry)
  | 3, none => some (.lower .reach)
  | 4, none => some (.upper .reach)
  | 5, none => some (.lower .spout)
  | 6, none => some (.upper .spout)
  | 7, none => some (.timeout .gantry)
  | 8, none => some (.timeout .reach)
  | 9, none => some (.timeout .spout)
  | 10, none => some .tolerance
  | 11, none => some .fineZone
  | 12, none => some .park
  | 13, none => some .travelMargin
  | 14, none => some .hatchMargin
  | 15, none => some .pourDepth
  | 16, none => some .chokeStep
  | 17, none => some .bNom
  | 18, none => some .bMin
  | 19, none => some .capKg
  | 20, none => some .capCounts
  | 21, none => some .calMul
  | 22, none => some .calDiv
  | 23, none => some .division
  | 24, none => some .pulseTravel
  | 25, none => some .beltLength
  | 26, some c => (channelOf c).map .warnOn
  | 27, some c => (channelOf c).map .warnOff
  | 28, some c => (channelOf c).map .stopOn
  | 29, some c => (channelOf c).map .stopOff
  | 30, some c => (channelOf c).map .upCount
  | 31, some c => (channelOf c).map .downCount
  | 32, some c => (channelOf c).map .critical
  | 33, none => some .lockoutTime
  | 34, some p => (portOf p).map .rate
  | _, _ => none

/-- The value in use of a setting, in the unit of its table; NO and YES are 0 and 1. -/
def Settings.value (v : Settings) : SettingName → Int
  | .lower a => v.lower.get a
  | .upper a => v.upper.get a
  | .timeout a => v.timeout.get a
  | .tolerance => v.tolerance
  | .fineZone => v.fineZone
  | .park => v.park
  | .travelMargin => v.travelMargin
  | .hatchMargin => v.hatchMargin
  | .pourDepth => v.pourDepth
  | .chokeStep => v.chokeStep
  | .bNom => v.bNom
  | .bMin => v.bMin
  | .capKg => v.capKg
  | .capCounts => v.capCounts
  | .calMul => v.calMul
  | .calDiv => v.calDiv
  | .division => v.division
  | .pulseTravel => v.pulseTravel
  | .beltLength => v.beltLength
  | .warnOn c => (v.channels.get c).warnOn
  | .warnOff c => (v.channels.get c).warnOff
  | .stopOn c => (v.channels.get c).stopOn
  | .stopOff c => (v.channels.get c).stopOff
  | .upCount c => (v.channels.get c).up
  | .downCount c => (v.channels.get c).down
  | .critical c => (v.channels.get c).critical.toNat
  | .lockoutTime => v.lockoutTime
  | .rate p => v.rates.get p

/-- The widest limits of an axis (section 5.1). -/
def axisBounds : Axis → Int × Int
  | .gantry => (-20000, 20000)
  | .reach => (0, 4000)
  | .spout => (-500, 2600)

/-- A value lies in a setting's range, stated relations checked from both sides against the values in use (R183, check 3). -/
def Settings.allows (v : Settings) (n : SettingName) (x : Int) : Bool :=
  match n with
  | .lower a => within (axisBounds a) x && x + 100 ≤ v.upper.get a
  | .upper a => within (axisBounds a) x && v.lower.get a + 100 ≤ x
  | .timeout _ => within (5, 900) x
  | .tolerance => within (1, 50) x
  | .fineZone => within (5, 500) x
  | .park => within (-500, 2600) x
  | .travelMargin => within (50, 500) x
  | .hatchMargin => within (0, 300) x
  | .pourDepth => within (0, 1500) x
  | .chokeStep => within (0, 500) x
  | .bNom => within (1000, 60000) x && within (v.bMin, v.capKg) x
  | .bMin => within (100, v.bNom) x
  | .capKg => within (v.bNom, 65000) x
  | .capCounts => within (1, 16777215) x
  | .calMul | .calDiv => within (1, 65535) x
  | .division => x = 1 || x = 2 || x = 5 || x = 10 || x = 20 || x = 50
  | .pulseTravel => within (1, 100) x
  | .beltLength => within (1000, 60000) x
  | .warnOn c => within (0, 9999) x && within ((v.channels.get c).warnOff, (v.channels.get c).stopOn) x
  | .warnOff c => within (0, (v.channels.get c).warnOn) x && x ≤ (v.channels.get c).stopOff
  | .stopOn c =>
    within ((v.channels.get c).warnOn, 9999) x && ((v.channels.get c).stopOff : Int) ≤ x
  | .stopOff c => within ((v.channels.get c).warnOff, (v.channels.get c).stopOn) x
  | .upCount _ | .downCount _ => within (1, 15) x
  | .critical _ => x = 0 || x = 1
  | .lockoutTime => within (30, 1800) x
  | .rate _ => x = 9600 || x = 19200 || x = 38400 || x = 57600 || x = 115200

/-- The settings with one channel's changed. -/
def Settings.onChannel (v : Settings) (c : Channel) (f : ChannelSettings → ChannelSettings) : Settings :=
  { v with channels := v.channels.set c (f (v.channels.get c)) }

/-- The settings with one value replaced. -/
def Settings.put (v : Settings) (n : SettingName) (x : Int) : Settings :=
  match n with
  | .lower a => { v with lower := v.lower.set a x }
  | .upper a => { v with upper := v.upper.set a x }
  | .timeout a => { v with timeout := v.timeout.set a x.toNat }
  | .tolerance => { v with tolerance := x.toNat }
  | .fineZone => { v with fineZone := x.toNat }
  | .park => { v with park := x }
  | .travelMargin => { v with travelMargin := x.toNat }
  | .hatchMargin => { v with hatchMargin := x.toNat }
  | .pourDepth => { v with pourDepth := x.toNat }
  | .chokeStep => { v with chokeStep := x.toNat }
  | .bNom => { v with bNom := x.toNat }
  | .bMin => { v with bMin := x.toNat }
  | .capKg => { v with capKg := x.toNat }
  | .capCounts => { v with capCounts := x.toNat }
  | .calMul => { v with calMul := x.toNat }
  | .calDiv => { v with calDiv := x.toNat }
  | .division => { v with division := x.toNat }
  | .pulseTravel => { v with pulseTravel := x.toNat }
  | .beltLength => { v with beltLength := x.toNat }
  | .warnOn c => v.onChannel c fun k => { k with warnOn := x.toNat }
  | .warnOff c => v.onChannel c fun k => { k with warnOff := x.toNat }
  | .stopOn c => v.onChannel c fun k => { k with stopOn := x.toNat }
  | .stopOff c => v.onChannel c fun k => { k with stopOff := x.toNat }
  | .upCount c => v.onChannel c fun k => { k with up := x.toNat }
  | .downCount c => v.onChannel c fun k => { k with down := x.toNat }
  | .critical c => v.onChannel c fun k => { k with critical := decide (x = 1) }
  | .lockoutTime => { v with lockoutTime := x.toNat }
  | .rate p => { v with rates := v.rates.set p x.toNat }

/-- The settings that may be written while a vessel is open: the thresholds and persistences of a channel (R149, R183). -/
def SettingName.anyTime : SettingName → Bool
  | .warnOn _ | .warnOff _ | .stopOn _ | .stopOff _ | .upCount _ | .downCount _ => true
  | .lower _ | .upper _ | .timeout _ | .tolerance | .fineZone | .park | .travelMargin | .hatchMargin | .pourDepth
  | .chokeStep | .bNom | .bMin | .capKg | .capCounts | .calMul | .calDiv | .division | .pulseTravel | .beltLength
  | .critical _ | .lockoutTime | .rate _ => false

/-! ### A new rate (R183) -/

/-- A rate takes effect on a port: a frame in progress there is discarded. -/
def PortRec.applyRate (rate : Nat) (r : PortRec) : PortRec := { r with rate := rate, rx := .idle }

/-- A port record on which a rate is to take effect after so many replies: at once after none, else at the end of the changes
that wait. -/
def PortRec.scheduleRate (rate after : Nat) (r : PortRec) : PortRec :=
  if after = 0 then r.applyRate rate else { r with rateChanges := r.rateChanges ++ [(rate, after)] }

/-- A new rate written for a port: it waits for the replies that wait there and, on the station port, for the reply to this
request. -/
def newRate (q : Port) (rate : Nat) (s : State) : State :=
  s.setPort q ((s.port q).scheduleRate rate ((s.port q).waiting.length + if q = .station then 1 else 0))

/-! ### The copy (R183) -/

/-- A taken write reaches the image according to the write condition. -/
def beginCopy (s : State) : State :=
  match s.store.cond with
  | .idle => { s with store.valid := false, store.cond := .writing, store.copying := some s.settings }
  | .writing => { s with store.cond := .writingAgain }
  | .writingAgain => s

/-- The value in use replaced, with what the owning block makes of it: an event of its channel for a critical flag (R149), a rate
to come for a port (R183). -/
def useSetting (n : SettingName) (x : Int) (s : State) : State :=
  let write (t : State) : State := { t with settings := t.settings.put n x }
  match n with
  | .critical c => channelEvent c write s
  | .rate q => if s.settings.value n = x then s else newRate q x.toNat (write s)
  | .lower _ | .upper _ | .timeout _ | .tolerance | .fineZone | .park | .travelMargin | .hatchMargin | .pourDepth
  | .chokeStep | .bNom | .bMin | .capKg | .capCounts | .calMul | .calDiv | .division | .pulseTravel | .beltLength
  | .warnOn _ | .warnOff _ | .stopOn _ | .stopOff _ | .upCount _ | .downCount _ | .lockoutTime => write s

/-- WRITE SETTING (R183). -/
def takeWriteSetting (number : Byte) (sub : Option Byte) (value : BitVec 32) (s : State) : Taken :=
  match settingOf number sub with
  | none => .refuse s .badField
  | some n =>
    if s.vesselOpen && !n.anyTime then .refuse s .state
    else if !s.settings.allows n value.toInt then .refuse s .badField
    else .done (beginCopy (useSetting n value.toInt s)) (s32 value.toInt)

def execWriteSetting (p : Port) (setting : Byte) (sub : Option Byte) (value : BitVec 32) (s : State) :
    Host.Outcome State Fault Refusal :=
  request (.writeSetting p setting sub value) p (takeWriteSetting setting sub value) s

/-- READ SETTING (R183). -/
def takeReadSetting (number : Byte) (sub : Option Byte) (s : State) : Taken :=
  match settingOf number sub with
  | none => .refuse s .badField
  | some n => .done s (s32 (s.settings.value n))

def execReadSetting (p : Port) (setting : Byte) (sub : Option Byte) (s : State) : Host.Outcome State Fault Refusal :=
  request (.readSetting p setting sub) p (takeReadSetting setting sub) s

/-- The image as the copy that has just ended left it (notes/assumptions/16.md). -/
def Store.copied (t : Store) : Settings := t.copying.getD t.image

/-- The write completion (R183); nothing in IDLE, where no copy is in progress. -/
def writeCompleted (s : State) : State :=
  match s.store.cond with
  | .idle => s
  | .writing => { s with store := ⟨s.store.copied, true, .idle, none⟩ }
  | .writingAgain => { s with store := ⟨s.store.copied, false, .writing, some s.settings⟩ }

def execWriteCompletion (s : State) : Host.Outcome State Fault Refusal := event writeCompleted s

end Sys2Proof.Machine
end

