-- ==== Sys2Proof/Machine/Spout.lean ====
section
/-! DEFINITION. Motion authority and jogging, and the arrivals and expiries of the axes (chapter 5). -/

namespace Sys2Proof.Machine

/-! ### Motion authority (section 5.5) -/

/-- The reply to TAKE MANUAL and RELEASE MANUAL: AUTO 0, MANUAL 1. -/
def authorityReport (s : State) : List Byte := yes s.spout.manual

/-- TAKE MANUAL (R101). -/
def takeTakeManual (s : State) : Taken :=
  if s.sched.state = .pouring ∨ s.sched.state = .draining then .refuse s .feedOn
  else if s.spout.manual then .done s (authorityReport s)
  else
    let t := addReason .manual { s with spout.manual := true }
    .done t (authorityReport t)

def execTakeManual (p : Port) (s : State) : Host.Outcome State Fault Refusal := request (.takeManual p) p takeTakeManual s

/-- RELEASE MANUAL (R102). -/
def takeReleaseManual (s : State) : Taken :=
  if s.spout.manual then
    let t := removeReason .manual { stopAxes s with spout.manual := false }
    .done t (authorityReport t)
  else .done s (authorityReport s)

def execReleaseManual (p : Port) (s : State) : Host.Outcome State Fault Refusal :=
  request (.releaseManual p) p takeReleaseManual s

/-- A MOVING axis's target lies in an interval; an axis that is not MOVING has no target to test (R104). -/
def AxisRec.headsInto (i : Int × Int) (r : AxisRec) : Bool :=
  match r.state, r.target with
  | .moving, some x => within i x
  | .moving, none => false
  | .idle, _ | .inpos, _ | .fault, _ => true

/-- GANTRY and REACH lie, and are headed, inside one hatch opening (R104). -/
def State.staysInHatch (s : State) : Bool :=
  (List.finRange 8).any fun h =>
    s.overHold h && s.axes.gantry.headsInto (s.openingX h) && s.axes.reach.headsInto (s.openingY h)

/-- The spout's low point is at or above a height: its position and, when it is MOVING, its target too (R105). -/
def State.lowPointAtOrAbove (s : State) (height : Int) : Bool :=
  s.spoutAtOrAbove height &&
    match s.axes.spout.state, s.axes.spout.target with
    | .moving, some z => height ≤ z
    | _, _ => true

/-- The target of a SPOUT jog after the clearance clamp of R104, none where there is no safe target. -/
def State.spoutJog (s : State) (position target : Int) : Option Int :=
  let height := s.travelHeight s.moveInPlace
  if position ≤ target ∨ s.staysInHatch ∨ height ≤ target then some target
  else if height ≤ s.settings.upper.spout then some height
  else none

/-- The target of a GANTRY or REACH jog after the clearance clamp of R105: kept when the low point clears the height of the jog,
else brought into the opening of the hold the spout is in. -/
def State.levelJog (s : State) (height : Int) (opening : HoldId → Int × Int) (target : Int) : Option Int :=
  if s.lowPointAtOrAbove height then some target
  else s.holdUnder.map fun h => clampInt (opening h).1 (opening h).2 target

/-- The target of a jog from a position (R103 to R105). -/
def State.jogTarget (s : State) (a : Axis) (position target : Int) : Option Int :=
  match a with
  | .spout => s.spoutJog position target
  | .gantry => s.levelJog (s.travelHeight (s.moveFromGantry target)) s.openingX target
  | .reach => s.levelJog (s.travelHeight s.moveInPlace) s.openingY target

/-- JOG (R103). -/
def takeJog (axis : Byte) (distance : BitVec 32) (s : State) : Taken :=
  match axisOf axis with
  | none => .refuse s .badField
  | some a =>
    if !s.spout.manual || s.inputs.eStop || (s.axis a).state == .fault then .refuse s .state
    else
      match (s.axis a).position with
      | none => .refuse s .state
      | some x =>
        let clamped := clampInt (s.settings.lower.get a) (s.settings.upper.get a) (x + distance.toInt)
        match s.jogTarget a x clamped with
        | none => .refuse s .state
        | some target =>
          let t := moveAxis a .graded target s
          .done t (s16 ((t.axis a).target.getD target))

def execJog (p : Port) (axis : Byte) (distance : BitVec 32) (s : State) : Host.Outcome State Fault Refusal :=
  request (.jog p axis distance) p (takeJog axis distance) s

/-! ### Arrivals (section 5.2) -/

/-- A position more than 200 cm outside the axis's limits (R83). -/
def State.outOfRange (s : State) (a : Axis) (x : Int) : Bool :=
  x < s.settings.lower.get a - 200 || s.settings.upper.get a + 200 < x

/-- What a position arrival that faulted nothing leads to beyond its axis: the travel in hand (R93 to R96), and for GANTRY and
REACH the belt run line (R63). -/
def afterArrival (a : Axis) (s : State) : State :=
  match a with
  | .gantry | .reach => settle (traverseArrived (setRunLine s))
  | .spout => settle (spoutArrived s)

/-- A position arrival (R83, R85). -/
def positionArrived (a : Axis) (x : Int) (s : State) : State :=
  let t := s.setAxis a { s.axis a with position := some x }
  if (s.axis a).state ≠ .fault ∧ s.outOfRange a x then failAxis a .range t
  else
    afterArrival a
      (t.setAxis a ((t.axis a).advance s.now s.settings.tolerance s.settings.fineZone))

def execPositionArrival (a : Axis) (value : BitVec 32) (s : State) : Host.Outcome State Fault Refusal :=
  event (positionArrived a value.toInt) s

/-- A class arrival (R86). -/
def execClassArrival (a : Axis) (c : SpeedClass) (s : State) : Host.Outcome State Fault Refusal :=
  event (fun t => t.setAxis a ((t.axis a).confirm t.now c)) s

/-- The class deadline of an axis has passed (R86). -/
def classExpired (a : Axis) (s : State) : State :=
  match (s.axis a).classDeadline with
  | some t => failAxis a .cls (reachTime t s)
  | none => s

def execClassDeadlineExpiry (a : Axis) (s : State) : Host.Outcome State Fault Refusal := event (classExpired a) s

/-- The move deadline of a MOVING axis has passed (R88). -/
def moveExpired (a : Axis) (s : State) : State :=
  match (s.axis a).state, (s.axis a).moveDeadline with
  | .moving, some t => failAxis a .deadline (reachTime t s)
  | _, _ => s

def execMoveDeadlineExpiry (a : Axis) (s : State) : Host.Outcome State Fault Refusal := event (moveExpired a) s

/-- The drive fault input of an axis is asserted (R88); the level alone is noted while reset is asserted. -/
def execDriveFaultAssert (a : Axis) (s : State) : Host.Outcome State Fault Refusal :=
  let t := { s with inputs.driveFault := s.inputs.driveFault.set a true }
  .next (if s.inReset then t else failAxis a .drive t)

/-- The drive fault input of an axis is released: the axis is not changed (R88). -/
def execDriveFaultRelease (a : Axis) (s : State) : Host.Outcome State Fault Refusal :=
  .next { s with inputs.driveFault := s.inputs.driveFault.set a false }

end Sys2Proof.Machine
end

