-- ==== Sys2Proof/Machine/Frames.lean ====
section
/-! DEFINITION. Bytes, frames and replies at a port (section 11.1): the receive condition, the complete frame handed on as its
request, the reply that has been sent. -/

namespace Sys2Proof.Machine

/-- The request of a complete frame taken by its meaning. A frame spells no other command. -/
def takeRequest (i : Instr) (s : State) : Host.Outcome State Fault Refusal :=
  match i with
  | .vesselOpen p code => execVesselOpen p code s
  | .vesselClose p => execVesselClose p s
  | .declareHold p hold foreX aftX innerY outerY coaming key mask => execDeclareHold p hold foreX aftX innerY outerY coaming key mask s
  | .setShipOffset p offset heading => execSetShipOffset p offset heading s
  | .readHold p hold => execReadHold p hold s
  | .readStaged p hold => execReadStaged p hold s
  | .setHoldLimit p hold limit => execSetHoldLimit p hold limit s
  | .closeHatch p hold => execCloseHatch p hold s
  | .openHatch p hold => execOpenHatch p hold s
  | .reportDraft p entries => execReportDraft p entries s
  | .setTpc p tpc => execSetTpc p tpc s
  | .suspend p holds => execSuspend p holds s
  | .resume p => execResume p s
  | .holdFeed p => execHoldFeed p s
  | .releaseFeed p => execReleaseFeed p s
  | .addOrder p lot hold target along across cont notify retry => execAddOrder p lot hold target along across cont notify retry s
  | .withdrawOrder p order => execWithdrawOrder p order s
  | .rearmOrder p order => execRearmOrder p order s
  | .releaseOrder p order => execReleaseOrder p order s
  | .readOrder p order => execReadOrder p order s
  | .setPass p pass holds => execSetPass p pass holds s
  | .clearPass p pass => execClearPass p pass s
  | .readPass p pass selector => execReadPass p pass selector s
  | .start p => execStart p s
  | .step p => execStep p s
  | .haltSchedule p => execHaltSchedule p s
  | .pause p => execPause p s
  | .continuePour p => execContinuePour p s
  | .topOff p => execTopOff p s
  | .takeManual p => execTakeManual p s
  | .releaseManual p => execReleaseManual p s
  | .jog p axis distance => execJog p axis distance s
  | .silenceHorn p => execSilenceHorn p s
  | .nextBatch p => execNextBatch p s
  | .batchReport p batch gross tare flags => execBatchReport p batch gross tare flags s
  | .scaleStatus p readiness => execScaleStatus p readiness s
  | .openLot p lot shipper grade declared => execOpenLot p lot shipper grade declared s
  | .closeLot p lot => execCloseLot p lot s
  | .readLot p lot => execReadLot p lot s
  | .readBill p => execReadBill p s
  | .releaseBill p bill => execReleaseBill p bill s
  | .writeSetting p setting sub value => execWriteSetting p setting sub value s
  | .readSetting p setting sub => execReadSetting p setting sub s
  | .readStatus p selector => execReadStatus p selector s
  | .readEvents p => execReadEvents p s
  | .setEventEnable p flags => execSetEventEnable p flags s
  | .frameRefused .. | .frameDiscarded .. | .frameGapTimeout .. | .replySent .. | .reset | .startUp | .writeCompletion
  | .emergencyStopAssert | .emergencyStopRelease | .driveFaultAssert .. | .driveFaultRelease .. | .positionArrival ..
  | .classArrival .. | .classDeadlineExpiry .. | .moveDeadlineExpiry .. | .beltConfirmChange ..
  | .confirmDeadlineExpiry | .beltPulse | .riverLevelArrival .. | .levelStale | .dustSampleArrival ..
  | .dustStaleExpiry .. | .lockoutExpiry .. | .examination | .byteArrival .. | .framingError .. => .next s

/-- A complete frame on a port (R177, R178): discarded while two replies wait; refused with BAD_FIELD when its code names no
request or its body does not fit; otherwise taken as its request. A body of more than 249 bytes fits no frame (R174) and is
discarded. -/
def takeFrame (p : Port) (code : Byte) (body : List Byte) (s : State) : Host.Outcome State Fault Refusal :=
  if s.inReset then .next s
  else if 249 < body.length ∨ s.portFull p then .next (idlePort p s)
  else
    match decodeRequest p code body with
    | some i => takeRequest i s
    | none => .next (reply p code .badField [] (idlePort p s))

/-- A complete frame put to the port unit's checks (R178, notes/assumptions/17.md). -/
def execFrameRefused (p : Port) (code : Byte) (body : List Byte) (s : State) : Host.Outcome State Fault Refusal :=
  takeFrame p code body s

/-- A frame discarded for its length, its CRC or two waiting replies: no reply, the condition IDLE (R176, R177). -/
def execFrameDiscarded (p : Port) (s : State) : Host.Outcome State Fault Refusal := event (idlePort p) s

/-- More than 20 ms have passed since the last byte of a frame, which is discarded (R176); nothing in IDLE. -/
def gapPassed (p : Port) (s : State) : State :=
  match (s.port p).rx with
  | .inFrame _ last => idlePort p (reachTime (last + Config.frameGap + 1) s)
  | .idle => s

def execFrameGapTimeout (p : Port) (s : State) : Host.Outcome State Fault Refusal := event (gapPassed p) s

/-- A byte without its stop bit discards the frame in progress (R176). R176 speaks of a framing error in IN_FRAME alone; that in IDLE
such a byte, A5H included, is ignored and the port stays IDLE is the model's choice: DESIGN CHOICE, unsafe
(notes/assumptions/38.md). -/
def execFramingError (p : Port) (s : State) : Host.Outcome State Fault Refusal := event (idlePort p) s

/-! ### Bytes (R176) -/

/-- A port's receive condition IN_FRAME with the bytes gathered. -/
def gather (p : Port) (got : List Byte) (s : State) : State :=
  s.setPort p { s.port p with rx := .inFrame got s.now }

/-- A byte taken in IDLE. -/
def byteInIdle (p : Port) (b : Byte) (s : State) : State :=
  if b = startByte then gather p [] s else idlePort p s

/-- A frame whose bytes after the start byte are all gathered: handed on when the CRC over its first `len + 1` bytes equals the one
received, discarded otherwise. -/
def frameGathered (p : Port) (len : Nat) (got : List Byte) (s : State) : Host.Outcome State Fault Refusal :=
  let t := idlePort p s
  if got.drop (len + 1) = bytes16 (crc (got.take (len + 1))) then
    match got with
    | _ :: code :: rest => takeFrame p code (rest.take (len - 1)) t
    | _ => .next t
  else .next t

/-- A byte taken in IN_FRAME after the bytes `got`. -/
def byteInFrame (p : Port) (got : List Byte) (b : Byte) (s : State) : Host.Outcome State Fault Refusal :=
  match got with
  | [] => .next (if b.toNat = 0 ∨ 250 < b.toNat then idlePort p s else gather p [b] s)
  | n :: _ =>
    if got.length + 1 < n.toNat + 3 then .next (gather p (got ++ [b]) s)
    else frameGathered p n.toNat (got ++ [b]) s

/-- A byte arrival (R176); a byte more than 20 ms after the one before it finds that frame discarded. -/
def byteTaken (p : Port) (b : Byte) (s : State) : Host.Outcome State Fault Refusal :=
  match (s.port p).rx with
  | .idle => .next (byteInIdle p b s)
  | .inFrame got last => if last + Config.frameGap < s.now then .next (byteInIdle p b s) else byteInFrame p got b s

def execByteArrival (p : Port) (b : Byte) (s : State) : Host.Outcome State Fault Refusal :=
  if s.inReset then .next s else byteTaken p b s

/-! ### Replies (R177, R183) -/

/-- A port record after one more reply has been sent, for the rates that wait: the ones now due take effect, the last written
last. -/
def PortRec.countReply (r : PortRec) : PortRec :=
  let t := { r with rateChanges := (r.rateChanges.filter fun c => 1 < c.2).map fun c => (c.1, c.2 - 1) }
  match (r.rateChanges.filter fun c => c.2 ≤ 1).getLast? with
  | some c => t.applyRate c.1
  | none => t

/-- A reply has been sent on a port (R177, R183): it leaves the waiting replies, and a new rate that waited for it takes effect;
nothing where no reply waits. -/
def replyGone (p : Port) (s : State) : State :=
  match (s.port p).waiting with
  | [] => s
  | r :: rest => s.setPort p ({ s.port p with waiting := rest, sent := r.frame }.countReply)

def execReplySent (p : Port) (s : State) : Host.Outcome State Fault Refusal := event (replyGone p) s

end Sys2Proof.Machine
end

