-- ==== Sys2Proof/Machine/Dispatch.lean ====
section
/-! DEFINITION. The meaning of each command: one arm per constructor of Instr. -/

namespace Sys2Proof.Machine

def exec (i : Instr) (s : State) : Host.Outcome State Fault Refusal :=
  match i with
  | .vesselOpen p code => Sys2Proof.Machine.execVesselOpen p code s
  | .vesselClose p => Sys2Proof.Machine.execVesselClose p s
  | .declareHold p hold foreX aftX innerY outerY coaming key mask => Sys2Proof.Machine.execDeclareHold p hold foreX aftX innerY outerY coaming key mask s
  | .setShipOffset p offset heading => Sys2Proof.Machine.execSetShipOffset p offset heading s
  | .readHold p hold => Sys2Proof.Machine.execReadHold p hold s
  | .readStaged p hold => Sys2Proof.Machine.execReadStaged p hold s
  | .setHoldLimit p hold limit => Sys2Proof.Machine.execSetHoldLimit p hold limit s
  | .closeHatch p hold => Sys2Proof.Machine.execCloseHatch p hold s
  | .openHatch p hold => Sys2Proof.Machine.execOpenHatch p hold s
  | .reportDraft p entries => Sys2Proof.Machine.execReportDraft p entries s
  | .setTpc p tpc => Sys2Proof.Machine.execSetTpc p tpc s
  | .suspend p holds => Sys2Proof.Machine.execSuspend p holds s
  | .resume p => Sys2Proof.Machine.execResume p s
  | .holdFeed p => Sys2Proof.Machine.execHoldFeed p s
  | .releaseFeed p => Sys2Proof.Machine.execReleaseFeed p s
  | .addOrder p lot hold target along across cont notify retry => Sys2Proof.Machine.execAddOrder p lot hold target along across cont notify retry s
  | .withdrawOrder p order => Sys2Proof.Machine.execWithdrawOrder p order s
  | .rearmOrder p order => Sys2Proof.Machine.execRearmOrder p order s
  | .releaseOrder p order => Sys2Proof.Machine.execReleaseOrder p order s
  | .readOrder p order => Sys2Proof.Machine.execReadOrder p order s
  | .setPass p pass holds => Sys2Proof.Machine.execSetPass p pass holds s
  | .clearPass p pass => Sys2Proof.Machine.execClearPass p pass s
  | .readPass p pass selector => Sys2Proof.Machine.execReadPass p pass selector s
  | .start p => Sys2Proof.Machine.execStart p s
  | .step p => Sys2Proof.Machine.execStep p s
  | .haltSchedule p => Sys2Proof.Machine.execHaltSchedule p s
  | .pause p => Sys2Proof.Machine.execPause p s
  | .continuePour p => Sys2Proof.Machine.execContinuePour p s
  | .topOff p => Sys2Proof.Machine.execTopOff p s
  | .takeManual p => Sys2Proof.Machine.execTakeManual p s
  | .releaseManual p => Sys2Proof.Machine.execReleaseManual p s
  | .jog p axis distance => Sys2Proof.Machine.execJog p axis distance s
  | .silenceHorn p => Sys2Proof.Machine.execSilenceHorn p s
  | .nextBatch p => Sys2Proof.Machine.execNextBatch p s
  | .batchReport p batch gross tare flags => Sys2Proof.Machine.execBatchReport p batch gross tare flags s
  | .scaleStatus p readiness => Sys2Proof.Machine.execScaleStatus p readiness s
  | .openLot p lot shipper grade declared => Sys2Proof.Machine.execOpenLot p lot shipper grade declared s
  | .closeLot p lot => Sys2Proof.Machine.execCloseLot p lot s
  | .readLot p lot => Sys2Proof.Machine.execReadLot p lot s
  | .readBill p => Sys2Proof.Machine.execReadBill p s
  | .releaseBill p bill => Sys2Proof.Machine.execReleaseBill p bill s
  | .writeSetting p setting sub value => Sys2Proof.Machine.execWriteSetting p setting sub value s
  | .readSetting p setting sub => Sys2Proof.Machine.execReadSetting p setting sub s
  | .readStatus p selector => Sys2Proof.Machine.execReadStatus p selector s
  | .readEvents p => Sys2Proof.Machine.execReadEvents p s
  | .setEventEnable p flags => Sys2Proof.Machine.execSetEventEnable p flags s
  | .frameRefused p code body => Sys2Proof.Machine.execFrameRefused p code body s
  | .frameDiscarded p => Sys2Proof.Machine.execFrameDiscarded p s
  | .frameGapTimeout p => Sys2Proof.Machine.execFrameGapTimeout p s
  | .replySent p => Sys2Proof.Machine.execReplySent p s
  | .reset => Sys2Proof.Machine.execReset s
  | .startUp => Sys2Proof.Machine.execStartUp s
  | .writeCompletion => Sys2Proof.Machine.execWriteCompletion s
  | .emergencyStopAssert => Sys2Proof.Machine.execEmergencyStopAssert s
  | .emergencyStopRelease => Sys2Proof.Machine.execEmergencyStopRelease s
  | .driveFaultAssert a => Sys2Proof.Machine.execDriveFaultAssert a s
  | .driveFaultRelease a => Sys2Proof.Machine.execDriveFaultRelease a s
  | .positionArrival a value => Sys2Proof.Machine.execPositionArrival a value s
  | .classArrival a c => Sys2Proof.Machine.execClassArrival a c s
  | .classDeadlineExpiry a => Sys2Proof.Machine.execClassDeadlineExpiry a s
  | .moveDeadlineExpiry a => Sys2Proof.Machine.execMoveDeadlineExpiry a s
  | .beltConfirmChange asserted => Sys2Proof.Machine.execBeltConfirmChange asserted s
  | .confirmDeadlineExpiry => Sys2Proof.Machine.execConfirmDeadlineExpiry s
  | .beltPulse => Sys2Proof.Machine.execBeltPulse s
  | .riverLevelArrival value => Sys2Proof.Machine.execRiverLevelArrival value s
  | .levelStale => Sys2Proof.Machine.execLevelStale s
  | .dustSampleArrival c value => Sys2Proof.Machine.execDustSampleArrival c value s
  | .dustStaleExpiry c => Sys2Proof.Machine.execDustStaleExpiry c s
  | .lockoutExpiry h => Sys2Proof.Machine.execLockoutExpiry h s
  | .examination => Sys2Proof.Machine.execExamination s
  | .byteArrival p b => Sys2Proof.Machine.execByteArrival p b s
  | .framingError p => Sys2Proof.Machine.execFramingError p s

end Sys2Proof.Machine
end

