-- ==== Sys2Proof/Machine/Step.lean ====
section
/-! DEFINITION. The step: the command at the front of the queue is taken, and on an empty queue one ms passes. -/

namespace Sys2Proof.Machine

/-- One ms passes: what a step does on an empty queue. DESIGN CHOICE, safe (notes/assumptions/1.md). -/
def tick (s : State) : State := { s with now := s.now + 1 }

/-- The state with the front of its queue taken off. -/
def State.rest (s : State) : State := { s with pending := s.pending.tail }

/-- A step: the command at the front of the queue runs on the state with the queue's rest; an empty queue lets time pass. -/
def step (s : State) : Host.Outcome State Fault Refusal :=
  match s.pending with
  | i :: _ => exec i s.rest
  | [] => .next (tick s)

/-- The state with the command that a word spells put at the front of its queue; unchanged where the word spells none. -/
def State.withFetchWord (s : State) (nbits w : Nat) : State :=
  match decodeTableWord nbits w with
  | some i => { s with pending := i :: s.pending }
  | none => s

end Sys2Proof.Machine
end

