-- ==== Sys2Proof/Safety.lean ====
section
/-! DEFINITION. What counts as a safe state: the laws of the device that the manual states of one state (R12, R18, R21, R25, R31,
R36, R37, R41, R63, R124, R136, R145, R157, R158, R164, R166, R168, R170, R177, R181, R183), each as a predicate of the state; what
a port answers; the moves, travels, recomputes and deliveries, eligibility, the activations and the ends of a pour as their rules
state them; and what the operations of scheduling, pouring and travelling leave alone. -/

namespace Sys2Proof

/-! ### Who may send what (R178) -/

/-- The ports that may send a request, row by row of the table of R178; none for a command that is no request. -/
def Instr.senders : Instr → List Port
  | .vesselOpen .. | .vesselClose .. | .declareHold .. | .setPass .. | .clearPass .. | .readPass .. | .openLot ..
  | .closeLot .. | .addOrder .. | .withdrawOrder .. | .rearmOrder .. | .releaseOrder .. | .readBill .. | .releaseBill ..
  | .haltSchedule .. | .writeSetting .. | .readSetting .. => [.station]
  | .start .. | .step .. | .pause .. | .continuePour .. | .topOff .. | .takeManual .. | .releaseManual .. | .jog ..
  | .silenceHorn .. => [.cab]
  | .reportDraft .. | .setTpc .. | .setHoldLimit .. | .closeHatch .. | .openHatch .. | .suspend .. | .resume ..
  | .holdFeed .. | .releaseFeed .. => [.ship]
  | .nextBatch .. | .batchReport .. | .scaleStatus .. => [.scale]
  | .setShipOffset .. => [.station, .ship]
  | .readStatus .. | .readHold .. | .readOrder .. | .readLot .. | .readStaged .. | .readEvents .. | .setEventEnable .. =>
    [.station, .cab, .ship, .scale]
  | .frameRefused .. | .frameDiscarded .. | .frameGapTimeout .. | .replySent .. | .reset | .startUp | .writeCompletion
  | .emergencyStopAssert | .emergencyStopRelease | .driveFaultAssert .. | .driveFaultRelease .. | .positionArrival ..
  | .classArrival .. | .classDeadlineExpiry .. | .moveDeadlineExpiry .. | .beltConfirmChange .. | .confirmDeadlineExpiry
  | .beltPulse | .riverLevelArrival .. | .levelStale | .dustSampleArrival .. | .dustStaleExpiry .. | .lockoutExpiry ..
  | .examination | .byteArrival .. | .framingError .. => []

end Sys2Proof

namespace Sys2Proof.Machine

/-- Each saved mask, newest first, is contained in the mask that replaced it (R18). -/
def Nested (mask : HoldSet) : List HoldSet → Prop
  | [] => True
  | saved :: rest => saved &&& mask = saved ∧ Nested saved rest

/-- The law of the suspension stack: at most 6 saved masks, each contained in the mask saved after it and in the current mask
(R18). -/
def SuspensionLaw (s : State) : Prop :=
  s.suspension.saved.length ≤ Config.maxSaved ∧ Nested s.suspension.mask s.suspension.saved

/-- The law of the transit queue: at most 16 records, and at most 15 while a grant is outstanding (R136, R130). -/
def BeltLaw (s : State) : Prop :=
  s.belt.records.length + (if s.weigh.grant.isSome then 1 else 0) ≤ Config.maxRecords

/-- The law of the bill store: at most 12 bills, in strictly increasing bill-number order, every number one the counter has already
given (R168, R170). -/
def BillLaw (s : State) : Prop :=
  s.bank.bills.length ≤ Config.maxBills ∧
    s.bank.bills.Pairwise (fun a b => a.number < b.number) ∧
    ∀ b ∈ s.bank.bills, b.number < s.bank.nextBill + s.bank.exhausted.toNat

/-- The law of one port record: at most two replies wait (R177), and out of reset the attention line is asserted exactly while the
flags and the enables have a flag in common (R181). -/
def PortLaw (inReset : Bool) (r : PortRec) : Prop :=
  r.waiting.length ≤ Config.maxReplies ∧ (inReset = false → r.attention = ((r.flags &&& r.enables) != 0))

/-- The law of the four port records. -/
def PortsLaw (s : State) : Prop := ∀ p, PortLaw s.inReset (s.port p)

/-- The next batch number is 1 to 65,535 (R124). -/
def BatchLaw (s : State) : Prop := 1 ≤ s.weigh.nextBatch ∧ s.weigh.nextBatch ≤ 65535

/-- The law of the belt run line: asserted only in POURING or DRAINING with GANTRY and REACH inside the hatch opening of the active
order's hold (R63). -/
def RunLineLaw (s : State) : Prop := s.pour.runLine = true → s.runWanted = true

/-- The law of the passes: no chain names a hold twice, and the staged list is the list in effect while no edit waits (R36, R37). -/
def PassesLaw (s : State) : Prop :=
  (∀ n : PassId, s.passes.inEffect[n].Nodup ∧ s.passes.staged[n].Nodup) ∧
    (s.passes.pendingEdit = false → s.passes.staged = s.passes.inEffect)

/-- The scheduler names an active order exactly in the pour states, and that order alone is ACTIVE (R25, R41); while no vessel is
open the scheduler is STOPPED (R41). -/
def ActiveLaw (s : State) : Prop :=
  (s.sched.state.isPour = true ↔ s.sched.active.isSome = true) ∧
    (∀ o, (s.order o).state = .active ↔ s.sched.active = some o) ∧
    (s.vesselOpen = false → s.sched.state = .stopped)

/-- The law of R25: an order is on its hold's queue exactly when it is READY, ACTIVE or STALLED, no queue names an order twice, and
an ACTIVE order is the top of its queue. -/
def QueueLaw (s : State) : Prop :=
  (∀ h o, o ∈ s.queue h ↔ (s.order o).hold = some h ∧ (s.order o).state.live = true) ∧ (∀ h, (s.queue h).Nodup) ∧
    (∀ o, (s.order o).state.live = true → (s.order o).hold.isSome = true) ∧
    ∀ o h, (s.order o).state = .active → (s.order o).hold = some h → (s.queue h).head? = some o

/-- The law of the settings: the values in use, those of the image and those of a copy in progress lie in their ranges and keep
the stated relations (R183). -/
def SettingsLaw (s : State) : Prop :=
  ∀ v : Settings, v = s.settings ∨ v = s.store.image ∨ s.store.copying = some v → ∀ n, v.allows n (v.value n) = true

/-- The law of R31: the in_transit_kg of every order is the net of the transit records that carry its id. With it, granted_kg is
the size of the outstanding grant to the order and 0 without one, a grant is to an order that is not FREE, a FREE slot carries
nothing (R22), and the belt is clear while no vessel is open (R135). -/
def TransitLaw (s : State) : Prop :=
  (∀ o, (s.order o).inTransit = netWhere (fun t => t.order == o) s.belt.records) ∧
    (∀ o, (s.order o).granted = ((s.weigh.grant.filter fun g => g.order == o).map Grant.size).getD 0) ∧
    (∀ g, s.weigh.grant = some g → 0 < g.size ∧ (s.order g.order).state ≠ .free) ∧
    (∀ o, (s.order o).state = .free → (s.order o).inTransit = 0) ∧
    (s.vesselOpen = false → s.beltClear = true)

/-- The account of a lot number may still be charged: it is not FREE, and the drain test has not found it drained. -/
def State.Chargeable (s : State) (number : Nat) : Prop := ∃ l, s.lotSlot number = some l ∧ (s.lot l).drained = false

/-- The law of the accounts: no two accounts carry one number; the lots of the records and of the grant may still be charged
(R167); the lot of a READY, ACTIVE or STALLED order is OPEN (R24, R165); a drained account is CLOSING; every slot is FREE while no
vessel is open (R173); the closing queue names the CLOSING lots, each once (R166). -/
def AccountsLaw (s : State) : Prop :=
  (∀ l m, (s.lot l).state ≠ .free → (s.lot m).state ≠ .free → (s.lot l).number = (s.lot m).number → l = m) ∧
    (∀ r ∈ s.belt.records, s.Chargeable r.lot) ∧ (∀ g, s.weigh.grant = some g → s.Chargeable g.lot) ∧
    (∀ o, (s.order o).state.live = true →
      ∃ l, s.lotSlot (s.order o).lot = some l ∧ (s.lot l).state = .opened) ∧
    (∀ l, (s.lot l).state = .opened → (s.lot l).drained = false) ∧
    (s.vesselOpen = false → ∀ l, (s.lot l).state = .free) ∧ s.bank.closing.Nodup ∧
    ∀ n, n ∈ s.bank.closing ↔ ∃ l, (s.lot l).state = .closing ∧ (s.lot l).number = n

/-- The law of the grades: the lot of the pour order in progress, the lot of every transit record and that of the outstanding grant
pass the grade test of its hold (R49, R50), a visit order is TRAVELLING or PAUSED on the way (R62), and so, while the belt run line
is asserted, the lot of every transit record passes the grade test of the active order's hold (R145). -/
def GradeLaw (s : State) : Prop :=
  (∀ o h, s.pourOrder = some o → s.pourHold = some h → 0 < (s.order o).target →
    s.lotPasses h (s.order o).lot = true ∧ (∀ r ∈ s.belt.records, s.lotPasses h r.lot = true) ∧
      ∀ g, s.weigh.grant = some g → s.lotPasses h g.lot = true) ∧
    (∀ o, s.pourOrder = some o → (s.order o).target = 0 → s.isTravelling = true) ∧
    (s.pour.runLine = true → ∀ h, s.pourHold = some h → ∀ r ∈ s.belt.records, s.lotPasses h r.lot = true)

/-- The law of the holds that may receive: a hold with orders on its queue and the last pour hold are declared, there is a last
pour hold while an order is active or material is in flight, and a hold that is not declared has received nothing (R24, R139,
R141). -/
def ReceivingLaw (s : State) : Prop :=
  (∀ h, s.queue h ≠ [] → (s.hold h).declared = true) ∧
    (∀ h, s.belt.lastHold = some h → (s.hold h).declared = true) ∧
    (s.sched.active.isSome = true ∨ s.beltClear = false → s.belt.lastHold.isSome = true) ∧
    ∀ h, (s.hold h).declared = false → (s.hold h).loaded = 0

/-- The tonnage of a hold in the allocations of the accounts that are not FREE. -/
def State.unbilled (s : State) (h : HoldId) : Nat :=
  ((List.finRange 16).map fun l => if (s.lot l).state = .free then 0 else allocTo (s.lot l).allocs h).sum

/-- The balances of the tonnages: the weighed_kg of an account that is not FREE is the sum of its allocations plus the net of the
transit records of its lot (R164), its uncertified_kg is a part of it, and its allocation list names no hold twice; the loaded_kg
of a hold is its billed_kg plus its allocations in accounts that are not FREE (R12); the weighed_kg of a bill is the sum of its
allocation list (R168). -/
def BalanceLaw (s : State) : Prop :=
  (∀ l, (s.lot l).state ≠ .free →
    (s.lot l).weighed =
      ((s.lot l).allocs.map Prod.snd).sum + netWhere (fun t => t.lot == (s.lot l).number) s.belt.records) ∧
    (∀ l, (s.lot l).uncertified ≤ (s.lot l).weighed ∧ ((s.lot l).allocs.map Prod.fst).Nodup) ∧
    (∀ h, (s.hold h).loaded = (s.hold h).billed + s.unbilled h) ∧
    ∀ b ∈ s.bank.bills, b.weighed = (b.allocs.map Prod.snd).sum

/-- The bound on the material of a session (R12, R122): the total loaded, the net of the transit records and the outstanding grant
come together to at most 4,200,000,000 kg while a grant of at least 100 kg is outstanding, and to at most 4,200,064,900 kg while
none is. -/
def HeadroomLaw (s : State) : Prop :=
  match s.weigh.grant with
  | some g =>
    100 ≤ g.size ∧ s.totalLoaded + netWhere (fun _ => true) s.belt.records + g.size ≤ 4200000000
  | none => s.totalLoaded + netWhere (fun _ => true) s.belt.records ≤ 4200064900

/-- The law of one axis: a move deadline runs exactly while the axis is MOVING, and an axis that is not MOVING is commanded STOP
(R84, R85, R88, R89); while the emergency stop input is asserted no axis is MOVING (R79); no class deadline runs in FAULT, and
elsewhere one runs exactly while the commanded class is not the confirmed one (R86). -/
def AxisRec.Law (inReset eStop : Bool) (r : AxisRec) : Prop :=
  (r.state = .moving ↔ r.moveDeadline.isSome = true) ∧ (r.state ≠ .moving → r.commanded = .stop) ∧
    (r.state = .moving → r.target.isSome = true ∧ r.kind.isSome = true) ∧
    (inReset = false → eStop = true → r.state ≠ .moving) ∧ (r.state = .fault → r.classDeadline = none) ∧
    (inReset = false → r.state ≠ .fault → (r.classDeadline.isSome = true ↔ r.commanded ≠ r.confirmed))

/-- The law of the three axes. -/
def AxesLaw (s : State) : Prop := ∀ a, (s.axis a).Law s.inReset s.inputs.eStop

/-- The law of the pauses: MANUAL stands in the pause-reason set exactly while the authority is MANUAL, and, out of reset, DUST_PLANT
exactly while a channel other than HEAD has effective level STOP (R67, R157); in TRAVELLING and
POURING the set is empty, in PAUSED it is not and a return state is recorded (R68, R70); a DRAINING pour is under AUTO (R101); the
travel condition is present exactly in a travel phase, and a travel is in progress or waits only in TRAVELLING (R96 to R99). -/
def PauseLaw (s : State) : Prop :=
  s.pour.reasons.manual = s.spout.manual ∧
    (s.inReset = false → (s.pour.reasons.dust = true ↔ ∃ c, c ≠ .head ∧ s.level c = .stop)) ∧
    (s.sched.state = .travelling ∨ s.sched.state = .pouring → s.pour.reasons = ⟨false, false, false, false⟩) ∧
    (s.sched.state = .paused →
      s.pour.reasons ≠ ⟨false, false, false, false⟩ ∧ s.pour.returnState.isSome = true) ∧
    (s.sched.state = .draining → s.spout.manual = false) ∧
    (s.spout.cond.isSome = true ↔ s.spout.phase ≠ .none) ∧
    (s.spout.cond = some .inProgress ∨ s.spout.cond = some .clearanceWait → s.sched.state = .travelling)

/-- The law of the traverse: while TRAVERSE is in progress the authority is AUTO and the SPOUT position is at or above the travel
height in use (R94, R95), and under AUTO neither GANTRY nor REACH is MOVING but in TRAVERSE (R106). -/
def TraverseLaw (s : State) : Prop :=
  (s.spout.phase = .traverse → s.spout.cond = some .inProgress →
    s.spout.manual = false ∧ ∃ z x, s.spout.height = some z ∧ s.axes.spout.position = some x ∧ z ≤ x) ∧
  (s.spout.manual = false → s.axes.gantry.state = .moving ∨ s.axes.reach.state = .moving →
    s.spout.phase = .traverse ∧ s.spout.cond = some .inProgress)

/-- The law of R21: the hold of the order whose pour is in progress is not in the exclusion set. -/
def ExclusionLaw (s : State) : Prop := ∀ h, s.pourHold = some h → inSet s.exclusion h = false

/-- The law of the beacon: out of reset it is on exactly while some channel has effective level WARN or STOP (R158). -/
def BeaconLaw (s : State) : Prop := s.inReset = false → s.dust.beacon = s.beaconOn

/-! ### What a port answers -/

/-- A port takes a complete frame: reset is not asserted and fewer than two replies wait (R177, R184). -/
def State.takes (s : State) (p : Port) : Prop := s.inReset = false ∧ (s.port p).waiting.length < Config.maxReplies

/-- The state with one reply more at a port and its receive condition IDLE (R176, R177); the reply's code is the request code plus
80H (R174). -/
def State.answered (s : State) (p : Port) (code : Byte) (r : Result) (items : List Byte := []) : State :=
  s.setPort p { s.port p with rx := .idle, waiting := (s.port p).waiting ++ [⟨code + 0x80, r, items⟩] }

/-- Bytes arriving at a port one after another. -/
def feed (p : Port) : List Byte → State → Host.Outcome State Fault Refusal
  | [], s => .next s
  | b :: rest, s =>
    match exec (.byteArrival p b) s with
    | .next t => feed p rest t
    | .fault r => .fault r
    | .refused r => .refused r

/-- A flag is set on each of the four ports (R180). -/
def State.flagged (s : State) (f : EventFlag) : Prop := ∀ p, (s.port p).flags &&& f.bit = f.bit

/-- What a session request leaves (R172, R173): the holds, the orders, the passes, the scheduler cleared, the vessel code written;
and what outlasts the vessel as it was. -/
structure SessionCleared (vessel : BitVec 16) (s t : State) : Prop where
  ship : t.ship = ⟨0, .bowPositive, none, none, 0, vessel⟩
  holds : ∀ h, t.hold h = Hold.undeclared
  suspension : t.suspension = ⟨0, []⟩
  orders : ∀ o, t.order o = Order.free
  queues : ∀ h, t.queue h = []
  lastEnded : t.lastEnded = none
  passes : t.passes = Passes.cleared
  sched : t.sched = Sched.cleared
  pour : t.pour = { s.pour with reasons := { s.pour.reasons with cab := false, ship := false } }
  belt : t.belt = { s.belt with lastHold := none }
  inputs : t.inputs = s.inputs
  river : t.river = s.river
  axes : t.axes = s.axes
  spout : t.spout = s.spout
  weigh : t.weigh = s.weigh
  dust : t.dust = s.dust
  lots : t.lots = s.lots
  bank : t.bank = s.bank
  settings : t.settings = s.settings
  store : t.store = s.store
  now : t.now = s.now
  inReset : t.inReset = s.inReset
  pending : t.pending = s.pending

/-! ### What wakes, rounds, boundaries and ends leave (R37, R46, R56, R8, R76) -/

/-- A round has started (R46): a staged pass list is in effect, the cursor at pass 1 position 1, the progress flag CLEAR, the
held-cause table empty. -/
def State.roundStarted (s : State) : State :=
  { s with
    passes := if s.passes.pendingEdit then ⟨s.passes.staged, s.passes.staged, false⟩ else s.passes
    sched.pass := 0
    sched.pos := 0
    sched.progress := false
    sched.held := Vector.replicate 8 none }

/-- What a wake event leaves (R47, R56, R59): from HELD and COMPLETE a new round in SEEKING, with SCHEDULE raised; in SEEKING the
progress flag SET; elsewhere no change. -/
def State.woken (s : State) : State :=
  match s.sched.state with
  | .held | .complete => raise .schedule { s with sched.state := .seeking }.roundStarted
  | .seeking => { s with sched.progress := true }
  | .stopped | .halted | .travelling | .pouring | .paused | .draining => s

/-- The walk resumed at the cursor (R42): a round started at pass 1 position 1, else the progress flag SET; SCHEDULE raised, since
STOPPED or HALTED is left (R59). -/
def State.resumed (s : State) : State :=
  raise .schedule
    (if s.sched.pass = 0 ∧ s.sched.pos = 0 then { s with sched.state := .seeking }.roundStarted
    else { s with sched.state := .seeking, sched.progress := true })

/-- Every pending amendment committed (R8). -/
def State.amended (s : State) : State :=
  { s with holds := tabulate fun h => (s.hold h).commit, ship := s.ship.commit }

/-- The pending amendments change at least one in-effect value. -/
def State.AmendmentsDiffer (s : State) : Prop :=
  (∃ h, (s.hold h).commit.geom ≠ (s.hold h).geom) ∨ s.ship.commit.offset ≠ s.ship.offset ∨
    s.ship.commit.heading ≠ s.ship.heading

/-- What a source change of the exclusion set leaves where no pour ends by it (R20): nothing more where the set is the same, else
MASK_CHANGED and a wake event. `before` is the set before the event. -/
def State.maskFormed (s : State) (before : HoldSet) : State :=
  if s.exclusion = before then s else (raise .maskChanged s).woken

/-! ### The ends of a pour (R27 to R30, R54, R60, R75, R76) -/

/-- What the order pool records of a YIELD (R28): the order READY in its place, the last end cause YIELD; retries left, the last fault
kind and the counters as they were, no ORDER_END. -/
def State.orderYielded (o : OrderId) (s : State) : State :=
  s.setOrder o { s.order o with state := .ready, lastEnd := some .yield }

/-- What the order pool records of a FAULT of a kind (R29, R30): READY where the retry limit is 0, retries left not counted; else one
retry fewer, and READY while some are left; with none left STALLED, with ORDER_END whatever the notify flag holds. -/
def State.orderFaulted (o : OrderId) (k : FaultKind) (s : State) : State :=
  let r := s.order o
  if r.retryLimit = 0 then s.setOrder o { r with state := .ready, lastEnd := some .fault, lastFault := some k }
  else if 1 < r.retriesLeft then
    s.setOrder o { r with state := .ready, retriesLeft := r.retriesLeft - 1, lastEnd := some .fault, lastFault := some k }
  else
    raise .orderEnd ({ s with lastEnded := some o }.setOrder o
      { r with state := .stalled, retriesLeft := 0, lastEnd := some .fault, lastFault := some k })

/-- What the order pool records of an orderly end of an order of hold `h` (R27, R30): the state and last end cause of its cause, its
id off the queue, and ORDER_END where its notify flag is YES. -/
def State.orderFinished (o : OrderId) (h : HoldId) (c : EndCause) (s : State) : State :=
  let t := (s.setOrder o { s.order o with
    state := match c with | .complete => .done | .topped => .short | .withdrawn => .withdrawn
    lastEnd := some (match c with | .complete => .complete | .topped => .topped | .withdrawn => .withdrawn) }).setQueue h
      ((s.queue h).filter (· != o))
  if (s.order o).notify then raise .orderEnd { t with lastEnded := some o } else t

/-- What every end of a pour leaves beside its order (R60, R75, R76, R90, R98, R8): the pour record cleared but for the pause reasons,
the spout record but for the authority, every MOVING axis stopped, amendments committed. -/
def State.pourOver (s : State) : State :=
  { s with
    pour := ⟨s.pour.reasons, none, false, none, false, .off, none⟩
    spout := ⟨s.spout.manual, .none, none, none, none, none⟩
    axes := s.axes.map (AxisRec.halt s.now)
    holds := tabulate fun h => (s.hold h).commit
    ship := s.ship.commit }

/-- The scheduler at rest by a halt (R57) or by HALT SCHEDULE (R44): no active order, the step flag CLEAR, the held-cause table empty,
the cursor and the progress flag where they stand; SCHEDULE raised (R59). -/
def State.rested (st : SchedState) (halts : HaltSet) (s : State) : State :=
  raise .schedule { s with
    sched := ⟨st, s.sched.pass, s.sched.pos, s.sched.progress, Vector.replicate 8 none, halts, none, false⟩ }

/-- The cursor moved on, to pass 1 position 1 where the round ends (R45). -/
def State.cursorOn (s : State) : State :=
  match s.nextPosition with
  | some (n, k) => { s with sched.pass := n, sched.pos := k }
  | none => { s with sched.pass := 0, sched.pos := 0 }

/-- A round that ends in SEEKING (R53): a new one with the progress flag SET; else COMPLETE where every queue is empty, and HELD with
the holds that have orders waiting in the table. -/
def State.roundEnded (s : State) : State :=
  if s.sched.progress then s.roundStarted
  else
    raise .schedule { s with
      sched.state := if ∀ h, s.queue h = [] then .complete else .held
      sched.held := tabulate fun h =>
        if s.queue h = [] then none else if ∃ n, h ∈ s.chain n then s.sched.held[h] else some .unplanned }

/-- The scheduler after an end of a pour that neither halts it nor hands on to the next order (R54): STOPPED with the step flag CLEAR
for a stepped pour, else SEEKING, a round end acted on (R53); the cursor moved on, no active order. -/
def State.walkedOn (s : State) : State :=
  if s.sched.stepFlag then
    raise .schedule { s.cursorOn with sched.state := .stopped, sched.active := none, sched.stepFlag := false }
  else
    let t := { s.cursorOn with sched.state := .seeking, sched.active := none }
    if s.nextPosition = none then t.roundEnded else t

/-- A pour has entered PAUSED (R68): the state it returns to is recorded, the run line deasserted and supervision OFF, every MOVING
axis stopped and a travel phase abandoned; the order stays active. -/
structure PourPauses (ret : ReturnState) (s t : State) : Prop where
  sched : t.sched = { s.sched with state := .paused }
  pour : t.pour = ⟨s.pour.reasons, some ret, s.pour.reasons.manual, s.pour.endCause, false, .off, none⟩
  spout : t.spout = if s.spout.phase = .none then s.spout else { s.spout with cond := some .abandoned }
  axes : ∀ a, t.axis a = (s.axis a).halt s.now
  orders : ∀ o, t.order o = s.order o
  queues : ∀ h, t.queue h = s.queue h
  lastHold : t.belt.lastHold = s.belt.lastHold

/-- The belt run line and its supervision set anew in POURING or DRAINING (R63, R64); `inside` says whether GANTRY and REACH lie
inside the hatch opening of the active order's hold. -/
def Pour.lineSet (r : Pour) (inside confirm : Bool) (now : Time) : Pour :=
  if inside then
    if r.runLine then r
    else if confirm then { r with runLine := true, supervision := .running, confirmDeadline := none }
    else { r with runLine := true, supervision := .starting, confirmDeadline := some (now + 5000) }
  else { r with runLine := false, supervision := .off, confirmDeadline := none }

/-! ### Moves, travels and recomputes as chapter 5 states them -/

/-- The record of an axis given a move (R84): the target clamped and written with the kind; INPOS within tolerance, else MOVING with
a deadline and a class. In FAULT (R87) and under the emergency stop (R79) no move is given. -/
def State.given (s : State) (a : Axis) (k : MoveKind) (target : Int) : AxisRec :=
  let r := s.axis a
  let goal := clampInt (s.settings.lower.get a) (s.settings.upper.get a) target
  let c : SpeedClass :=
    if r.position.any fun x => (x - goal).natAbs ≤ s.settings.tolerance then .stop
    else if k = .graded ∧ r.position.any fun x => s.settings.fineZone < (x - goal).natAbs then .fast else .fine
  if r.state = .fault ∨ s.inputs.eStop = true then r
  else { r with
    target := some goal
    kind := some k
    commanded := c
    classDeadline := if c = r.confirmed then none else some (s.now + 2000)
    state := if c = .stop then .inpos else .moving
    moveDeadline := if c = .stop then none else some (s.now + s.settings.timeout.get a * 1000) }

/-- The record of an axis after a position arrival that faults nothing (R83, R85). -/
def AxisRec.arrivedAt (r : AxisRec) (v : Settings) (now : Time) (x : Int) : AxisRec :=
  match r.state, r.target, r.kind with
  | .moving, some goal, some k =>
    if (x - goal).natAbs ≤ v.tolerance then { r with
      position := some x, state := .inpos, commanded := .stop, moveDeadline := none
      classDeadline := if r.confirmed = .stop then none else some (now + 2000) }
    else
      let c : SpeedClass := if v.fineZone < (x - goal).natAbs then .fast else .fine
      if k = .tracking ∨ c = r.commanded then { r with position := some x }
      else { r with
        position := some x, commanded := c, classDeadline := if r.confirmed = c then none else some (now + 2000) }
  | _, _, _ => { r with position := some x }

/-- The scheduler in POURING or DRAINING with hold `h` active, the run line set anew and the SPOUT given a tracking move (R62, R63,
R100). -/
def State.fed (s : State) (st : SchedState) (h : HoldId) : State :=
  { s with
    sched.state := st
    pour := s.pour.lineSet (s.overHold h) s.inputs.beltConfirm s.now
    axes.spout := s.given .spout .tracking (s.pourHeight h) }

/-- LOWER begins, and completes at once where the SPOUT is INPOS (R96). `ends`, here and in what follows, says what the
completion of a travel leads to. -/
def LowerBegins (ends : State → State → Prop) (w u : State) : Prop :=
  ∀ h, w.pourHold = some h →
    let t := { w with
      spout.phase := .lower, spout.cond := some .inProgress, axes.spout := w.given .spout .graded (w.pourHeight h) }
    (t.axes.spout.state ≠ .inpos → u = t) ∧ (t.axes.spout.state = .inpos → ends t u)

/-- TRAVERSE goes on, or, with GANTRY and REACH both INPOS, completes and LOWER begins (R94). -/
def TraverseGoes (ends : State → State → Prop) (w u : State) : Prop :=
  (w.axes.gantry.state ≠ .inpos ∨ w.axes.reach.state ≠ .inpos → u = w) ∧
    (w.axes.gantry.state = .inpos → w.axes.reach.state = .inpos → LowerBegins ends w u)

/-- TRAVERSE begins: GANTRY and REACH are given GRADED moves to the spot (R94). -/
def TraverseBegins (ends : State → State → Prop) (w u : State) : Prop :=
  ∀ x, w.spout.spotX = some x → ∀ y, w.spout.spotY = some y →
    TraverseGoes ends { w with
      spout.phase := .traverse
      spout.cond := some .inProgress
      axes.gantry := w.given .gantry .graded x
      axes.reach := w.given .reach .graded y } u

/-- The SPOUT given a GRADED move to the raise target of the travel height `z`: the RAISE is in progress, or waits where the SPOUT is
INPOS below that height (R92, R93). -/
def RaiseMoves (z : Int) (w u : State) : Prop :=
  let t := { w with
    spout.cond := some .inProgress
    axes.spout := w.given .spout .graded (min (z + w.settings.tolerance) w.settings.upper.spout) }
  (t.axes.spout.state ≠ .inpos → u = t) ∧
    (t.axes.spout.state = .inpos → u = { t with spout.cond := some .clearanceWait })

/-- RAISE begins: the travel height from the present GANTRY position to spot X is written; it is skipped where the SPOUT stands at or
above it (R92). -/
def RaiseBegins (ends : State → State → Prop) (w u : State) : Prop :=
  ∀ x, w.spout.spotX = some x →
    let z := w.travelHeight (w.moveFromGantry x)
    let t := { w with spout.phase := .raise, spout.cond := some .inProgress, spout.height := some z }
    (w.spoutAtOrAbove z = true → TraverseBegins ends t u) ∧ (w.spoutAtOrAbove z = false → RaiseMoves z t u)

/-- Order `o` is activated (R26, R52, R61, R90, R141): ACTIVE and the active order, the progress flag SET, the pour record cleared but
for the pause reasons, the last pour hold its hold. An axis in FAULT ends the pour at once with FAULT, kind AXIS, and halts the
scheduler (R78, R57); else reasons that stand pause the pour at once, every MOVING axis stopped (R68, notes/assumptions/7.md), and
with none RAISE begins. -/
def Activated (ends : State → State → Prop) (o : OrderId) (w u : State) : Prop :=
  ∀ h, (w.order o).hold = some h → ∀ al ac, (w.order o).spot = some (al, ac) →
    let t := State.setOrder { w with
        sched := { w.sched with state := .travelling, active := some o, progress := true }
        belt.lastHold := some h
        pour := ⟨w.pour.reasons, none, false, none, false, .off, none⟩
        spout := { w.spout with spotX := some (w.spotX h al), spotY := some (w.spotY h ac) } }
      o { w.order o with state := .active }
    (w.vesselOpen = true → (∃ a, (w.axis a).state = .fault) →
      u = (t.orderFaulted o .axis).pourOver.rested .halted (w.sched.halts.add .axis)) ∧
    ((∀ a, (w.axis a).state ≠ .fault) → w.pour.reasons ≠ ⟨false, false, false, false⟩ →
      u = { t with
        sched.state := .paused
        pour := ⟨w.pour.reasons, some .travelling, w.pour.reasons.manual, none, false, .off, none⟩
        axes := w.axes.map (AxisRec.halt w.now)
        spout.phase := .raise
        spout.cond := some .abandoned }) ∧
    ((∀ a, (w.axis a).state ≠ .fault) → w.pour.reasons = ⟨false, false, false, false⟩ → RaiseBegins ends t u)

/-- After an end with cause `c` of an order with record `r` of hold `h`, the continue rule activates order `n` (R55, R54): the pour was
not stepped, the continue flag is YES and the cause not WITHDRAWN, and the queue has `n` at its top, READY and eligible. -/
def State.ContinuesWith (w : State) (r : Order) (c : EndCause) (h : HoldId) (n : OrderId) : Prop :=
  w.sched.stepFlag = false ∧ r.cont = true ∧ c ≠ .withdrawn ∧ (w.queue h).head? = some n ∧ (w.order n).state = .ready ∧
    w.ineligible h n = none

/-- The active order finalises with a cause (R27, R54, R55, R75): the order pool records it, the pour is over, and the continue rule
activates the next order or else the scheduler walks on. -/
def Finalises (ends : State → State → Prop) (c : EndCause) (s u : State) : Prop :=
  ∀ o, s.pourOrder = some o → ∀ h, (s.order o).hold = some h →
    let w := (s.orderFinished o h c).pourOver
    ((∀ n, ¬w.ContinuesWith (s.order o) c h n) → u = w.walkedOn) ∧
      ∀ n, w.ContinuesWith (s.order o) c h n → Activated ends n w u

/-- A travel completes (R96, R26, R62), followed through `n` orders that the continue rule hands on within the event: a visit order
finalises DONE; a pour order enters POURING, or DRAINING where an end cause is recorded, which finalises it where the belt is
clear (R75). -/
def TravelEndsIn : Nat → State → State → Prop
  | 0, _, _ => True
  | n + 1, w, u =>
    let t := { w with spout.phase := .none, spout.cond := none, spout.height := none }
    ∀ o, w.pourOrder = some o → ∀ h, (w.order o).hold = some h →
      ((w.order o).target = 0 → Finalises (TravelEndsIn n) .complete t u) ∧
      (0 < (w.order o).target →
        (w.pour.endCause = none → u = t.fed .pouring h) ∧
        ∀ c, w.pour.endCause = some c →
          (w.beltClear = false → u = t.fed .draining h) ∧
            (w.beltClear = true → Finalises (TravelEndsIn n) c (t.fed .draining h) u))

/-- A travel completes. Each order handed on to was READY and, where its own travel completes, is finished: 64 orders are all the
pool has. -/
def TravelEnds : State → State → Prop := TravelEndsIn 64

/-- The finalisation test (R75): in DRAINING, or PAUSED with return state DRAINING, with the belt clear the active order finalises with
the recorded cause. -/
def FinalisationTested (w u : State) : Prop :=
  (w.isDraining = true → w.beltClear = true → ∀ c, w.pour.endCause = some c → Finalises TravelEnds c w u) ∧
    (w.isDraining = false ∨ w.beltClear = false → u = w)

/-- An orderly end taken with cause `c` in a pour (R72): WITHDRAWN replaces a recorded cause, COMPLETE and TOPPED leave one as it was.
A POURING pour drains, its SPOUT given no tracking move (notes/assumptions/30.md); a pour on its way, or PAUSED from POURING,
finalises at once with the belt clear or for a visit order, and else records the cause; a draining one records it. -/
def OrderlyEnds (c : EndCause) (s u : State) : Prop :=
  ∀ o, s.pourOrder = some o → ∀ h, (s.order o).hold = some h →
    let cause := if c = .withdrawn then c else s.pour.endCause.getD c
    let atOnce := s.beltClear = true ∨ (s.order o).target = 0
    let t := { s with pour.endCause := some cause }
    (s.sched.state = .pouring → FinalisationTested { t with
      sched.state := .draining, pour := t.pour.lineSet (s.overHold h) s.inputs.beltConfirm s.now } u) ∧
    (s.sched.state = .travelling ∨ (s.sched.state = .paused ∧ s.pour.returnState = some .travelling) →
      (atOnce → Finalises TravelEnds cause s u) ∧ (¬atOnce → u = t)) ∧
    (s.sched.state = .paused → s.pour.returnState = some .pouring →
      (atOnce → Finalises TravelEnds cause s u) ∧ (¬atOnce → u = { t with pour.returnState := some .draining })) ∧
    (s.sched.state = .draining ∨ (s.sched.state = .paused ∧ s.pour.returnState = some .draining) → u = t)

/-- The RAISE taken up again, in progress or in CLEARANCE_WAIT (R93, R97). That a SPOUT still MOVING goes on to its old target where
the RAISE completes is the model's choice (notes/assumptions/36.md). -/
def RaiseRetaken (w u : State) : Prop :=
  ∀ x, w.spout.spotX = some x →
    let z := w.travelHeight (w.moveFromGantry x)
    let t := { w with spout.height := some z }
    (w.spoutAtOrAbove z = true → TraverseBegins TravelEnds t u) ∧
      (w.spoutAtOrAbove z = false →
        (w.axes.spout.target = some (min (z + w.settings.tolerance) w.settings.upper.spout) → u = t) ∧
          (w.axes.spout.target ≠ some (min (z + w.settings.tolerance) w.settings.upper.spout) → RaiseMoves z t u))

/-- The travel height checked during TRAVERSE: the traverse goes on, or GANTRY and REACH stop and RAISE begins again (R95). -/
def HeightChecked (w u : State) : Prop :=
  ∀ x, w.spout.spotX = some x →
    let z := w.travelHeight (w.moveFromGantry x)
    let t := { w with spout.height := some z }
    (w.spoutAtOrAbove z = true → u = t) ∧
      (w.spoutAtOrAbove z = false →
        RaiseBegins TravelEnds { t with
          axes.gantry := w.axes.gantry.halt w.now, axes.reach := w.axes.reach.halt w.now } u)

/-- The SPOUT given a TRACKING move to the pour height in POURING and DRAINING, and no move elsewhere (R100). -/
def Tracked (w u : State) : Prop :=
  (w.sched.state ≠ .pouring → w.sched.state ≠ .draining → u = w) ∧
    (w.sched.state = .pouring ∨ w.sched.state = .draining → ∀ h, w.pourHold = some h →
      u = { w with axes.spout := w.given .spout .tracking (w.pourHeight h) })

/-- The pour height taken anew during LOWER (R97): where it is no longer the SPOUT's target, a new GRADED move. -/
def LowerRetaken (w u : State) : Prop :=
  ∀ h, w.pourHold = some h →
    (w.axes.spout.target = some (w.pourHeight h) → u = w) ∧
      (w.axes.spout.target ≠ some (w.pourHeight h) →
        let t := { w with axes.spout := w.given .spout .graded (w.pourHeight h) }
        (t.axes.spout.state ≠ .inpos → u = t) ∧ (t.axes.spout.state = .inpos → TravelEnds t u))

/-- What a clearance recompute event does to the travel or the tracking in hand (R97, R100): `w` is the state the event finds. -/
def Recomputed (w u : State) : Prop :=
  (w.spout.cond = none ∨ w.spout.cond = some .abandoned → Tracked w u) ∧
    (w.spout.phase = .raise → w.spout.cond = some .inProgress ∨ w.spout.cond = some .clearanceWait → RaiseRetaken w u) ∧
    (w.spout.phase = .traverse → w.spout.cond = some .inProgress → HeightChecked w u) ∧
    (w.spout.phase = .lower → w.spout.cond = some .inProgress → LowerRetaken w u)

/-- What a HEAD channel that enters or leaves effective level WARN does to the travel or the tracking in hand (R97, R100, R156): the
choke changes the pour height alone, so LOWER and tracking act on it and RAISE and TRAVERSE go on. -/
def ChokeChanged (w u : State) : Prop :=
  (w.spout.cond = none ∨ w.spout.cond = some .abandoned → Tracked w u) ∧
    (w.spout.phase = .raise → w.spout.cond = some .inProgress ∨ w.spout.cond = some .clearanceWait → u = w) ∧
    (w.spout.phase = .traverse → w.spout.cond = some .inProgress → u = w) ∧
    (w.spout.phase = .lower → w.spout.cond = some .inProgress → LowerRetaken w u)

/-- What a SPOUT position arrival makes of the travel in hand (R93, R95, R96): `w` is the state with the axis record after it. -/
def SpoutArrived (w u : State) : Prop :=
  (w.spout.cond = none ∨ w.spout.cond = some .abandoned → u = w) ∧
    (w.spout.phase = .raise → w.spout.cond = some .inProgress →
      (w.axes.spout.state ≠ .inpos → u = w) ∧
        (w.axes.spout.state = .inpos → ∀ z, w.spout.height = some z →
          (w.spoutAtOrAbove z = true → TraverseBegins TravelEnds w u) ∧
            (w.spoutAtOrAbove z = false → u = { w with spout.cond := some .clearanceWait }))) ∧
    (w.spout.phase = .raise → w.spout.cond = some .clearanceWait → RaiseRetaken w u) ∧
    (w.spout.phase = .traverse → w.spout.cond = some .inProgress → HeightChecked w u) ∧
    (w.spout.phase = .lower → w.spout.cond = some .inProgress →
      (w.axes.spout.state ≠ .inpos → u = w) ∧ (w.axes.spout.state = .inpos → TravelEnds w u))

/-- What the last pause reason removed from a PAUSED pour leads to (R70, R99): `w` is the state with the set empty. -/
def PauseLeft (w u : State) : Prop :=
  let t := { w with sched.state := .travelling, pour.returnState := none, pour.manualSeen := false }
  (w.pour.manualSeen = true → w.pour.returnState ≠ none → RaiseBegins TravelEnds t u) ∧
  (w.pour.manualSeen = false →
    (w.pour.returnState = some .travelling →
      (w.spout.phase = .raise → RaiseBegins TravelEnds t u) ∧ (w.spout.phase = .lower → LowerBegins TravelEnds t u) ∧
        (w.spout.phase = .traverse → ∀ x, w.spout.spotX = some x →
          let z := w.travelHeight (w.moveFromGantry x)
          (w.spoutAtOrAbove z = true → TraverseBegins TravelEnds { t with spout.height := some z } u) ∧
            (w.spoutAtOrAbove z = false → RaiseBegins TravelEnds t u))) ∧
    ∀ h, w.pourHold = some h →
      (w.pour.returnState = some .pouring → u = t.fed .pouring h) ∧
        (w.pour.returnState = some .draining → FinalisationTested (t.fed .draining h) u))

/-- The travel to the READY top order of some hold whose entry is CLEARANCE is feasible (R56, R51). -/
def State.ClearanceLifted (s : State) : Prop :=
  ∃ (h : HoldId) (o : OrderId) (al : Along) (ac : Across), s.sched.held[h] = some .clearance ∧ (s.queue h).head? = some o ∧
    (s.order o).state = .ready ∧ (s.order o).spot = some (al, ac) ∧
    s.travelHeight (s.moveFromGantry (s.spotX h al)) ≤ s.settings.upper.spout

/-- What a taken REPORT DRAFT or SET TPC or a valid level arrival brings about, after its own writes have made `t` (R56, R97): the
wake test for CLEARANCE findings, then a clearance recompute event. -/
def HeightsChanged (t u : State) : Prop :=
  (t.ClearanceLifted → Recomputed t.woken u) ∧ (¬t.ClearanceLifted → Recomputed t u)

/-- The bill of the lot in a slot issued (R168, R169): at the tail of the bill store under the counter's number, the lot off the
closing queue, its allocations added to the tonnages billed of their holds, its slot FREE; BILL_READY raised. -/
def State.billed (s : State) (l : LotSlot) : State :=
  raise .billReady (State.setLot
    { s with
      bank := ⟨s.bank.closing.filter (· != (s.lot l).number),
        s.bank.bills ++ [⟨s.bank.nextBill, s.ship.vessel, (s.lot l).number, (s.lot l).shipper, (s.lot l).grade,
          (s.lot l).weighed, (s.lot l).uncertified, (s.lot l).declared,
          (s.lot l).declared.map fun d => ((s.lot l).weighed : Int) - d, (s.lot l).count, (s.lot l).first, (s.lot l).last,
          (s.lot l).allocs,
          ⟨(s.lot l).declared.any fun d => (s.lot l).weighed < d, (s.lot l).declared.any fun d => d < (s.lot l).weighed,
            0 < (s.lot l).uncertified⟩⟩],
        if s.bank.nextBill < 4294967295 then s.bank.nextBill + 1 else s.bank.nextBill,
        !(decide (s.bank.nextBill < 4294967295))⟩
      holds := tabulate fun h => { s.hold h with
        billed := (s.hold h).billed + (((s.lot l).allocs.filter fun e => e.1 == h).map Prod.snd).sum } }
    l ⟨.free, 0, 0, 0, none, 0, 0, 0, none, none, [], false⟩)

/-- The weight of `q / calDiv` kg brought to the nearest multiple of the division, an exact half going up (R127). -/
def Settings.Nearest (v : Settings) (q net : Nat) : Prop :=
  ∃ n, net = n * v.division ∧ 2 * v.calDiv * v.division * n ≤ 2 * q + v.calDiv * v.division ∧
    2 * q + v.calDiv * v.division < 2 * v.calDiv * v.division * (n + 1)

/-- A channel record after a sample, by the bands of its state (R150 to R152); a valid sample in FAULT is classified in NORMAL with
both counts cleared. -/
def ChannelRec.after (r : ChannelRec) (c : ChannelSettings) (now : Time) (v : Nat) : ChannelRec :=
  if 10000 ≤ v then ⟨.fault, 0, 0, v, some now, none, some .code⟩
  else
    let st : ChannelState := if r.state = .fault then .normal else r.state
    let up := (if r.state = .fault then 0 else r.up) + 1
    let down := (if r.state = .fault then 0 else r.down) + 1
    let why := if r.state = .fault then none else r.reason
    if (st = .normal ∧ c.warnOn ≤ v) ∨ (st = .warn ∧ c.stopOn ≤ v) then
      if up < c.up then ⟨st, up, 0, v, some now, some (now + 3000), why⟩
      else ⟨if c.stopOn ≤ v then .stop else .warn, 0, 0, v, some now, some (now + 3000), why⟩
    else if (st = .warn ∧ v < c.warnOff) ∨ (st = .stop ∧ v < c.stopOff) then
      if down < c.down then ⟨st, 0, down, v, some now, some (now + 3000), why⟩
      else ⟨if st = .warn then .normal else .warn, 0, 0, v, some now, some (now + 3000), why⟩
    else ⟨st, 0, 0, v, some now, some (now + 3000), why⟩

/-- The transit queue after a pulse that delivers no record. -/
def Belt.pulsed (b : Belt) (v : Settings) : Belt := { b with counter := b.counter + BitVec.ofNat 32 v.pulseTravel }

/-- The record at the head of a list has not travelled the belt length (R138). -/
def Belt.notDue (b : Belt) (v : Settings) (records : List Transit) : Prop :=
  ∀ r, records.head? = some r → (b.counter - r.stamp).toNat < v.beltLength

/-- What every delivery charges (R142, steps 1 to 3): the hold's loaded tonnage, the allocation of the lot, the source order's
tonnage in transit; the record leaves the queue. -/
def State.landed (s : State) (r : Transit) (rest : List Transit) (h : HoldId) (l : LotSlot) : State :=
  ((({ s with belt.records := rest }.setHold h { s.hold h with loaded := (s.hold h).loaded + r.net }).setLot l
    { s.lot l with
      allocs :=
        if r.net = 0 then (s.lot l).allocs
        else if (s.lot l).allocs.any (fun e => e.1 == h) then
          (s.lot l).allocs.map fun e : HoldId × Nat => if e.1 = h then (e.1, e.2 + r.net) else e
        else (s.lot l).allocs ++ [(h, r.net)] }).setOrder r.order
    { s.order r.order with inTransit := (s.order r.order).inTransit - r.net })

/-- What a delivery charges to the active order (R142, step 4): its own material to delivered_kg, any other to carried_in_kg. -/
def State.credited (s : State) (r : Transit) (o : OrderId) : State :=
  s.setOrder o
    (if o = r.order then { s.order o with delivered := (s.order o).delivered + r.net }
    else { s.order o with carriedIn := (s.order o).carriedIn + r.net })

/-! ### Eligibility (R49 to R51) -/

/-- What the test of a held cause asks of hold `h` and order `o` (R49 to R51); BLOCKED and UNPLANNED come from no test. A visit order
lands no grain, so GRADE, CARRYOVER and FULL do not concern it. A lot with no account, which no run reaches, fails
(notes/assumptions/33.md). -/
def State.Fits (s : State) (h : HoldId) (o : OrderId) : HeldCause → Prop
  | .closed => (s.hold h).declared = true ∧ (s.hold h).hatchOpen = true
  | .excluded => inSet s.exclusion h = false
  | .grade => 0 < (s.order o).target → ∃ l, s.lotSlot (s.order o).lot = some l ∧
      ((s.lot l).grade ^^^ (s.hold h).geom.key) &&& (s.hold h).geom.mask = 0
  | .carryover => 0 < (s.order o).target →
      (∀ r ∈ s.belt.records, ∃ l, s.lotSlot r.lot = some l ∧
        ((s.lot l).grade ^^^ (s.hold h).geom.key) &&& (s.hold h).geom.mask = 0) ∧
      ∀ g, s.weigh.grant = some g → ∃ l, s.lotSlot g.lot = some l ∧
        ((s.lot l).grade ^^^ (s.hold h).geom.key) &&& (s.hold h).geom.mask = 0
  | .full => 0 < (s.order o).target → s.settings.bMin ≤ s.room h
  | .clearance => ∃ al ac, (s.order o).spot = some (al, ac) ∧
      s.travelHeight (s.moveFromGantry (s.spotX h al)) ≤ s.settings.upper.spout
  | .blocked | .unplanned => True

/-! ### What scheduling, pouring and travelling leave alone -/

/-- A hold record but for a staged copy that has taken effect at a pour boundary (R8). -/
def Hold.Kept (r t : Hold) : Prop := t = r ∨ t = r.commit

/-- The ship particulars but for staged values that have taken effect at a pour boundary (R8). -/
def Ship.Kept (r t : Ship) : Prop := t = r ∨ t = r.commit

/-- The pass lists but for a staged list copied into the list in effect (R37). -/
def Passes.Kept (r t : Passes) : Prop := t = r ∨ t = ⟨r.staged, r.staged, false⟩

/-- The fields of an order that its life leaves alone. -/
structure Order.Kept (r t : Order) : Prop where
  lot : t.lot = r.lot
  hold : t.hold = r.hold
  target : t.target = r.target
  delivered : t.delivered = r.delivered
  inTransit : t.inTransit = r.inTransit
  granted : t.granted = r.granted
  carriedIn : t.carriedIn = r.carriedIn
  spot : t.spot = r.spot
  cont : t.cont = r.cont
  notify : t.notify = r.notify
  retryLimit : t.retryLimit = r.retryLimit

/-- The fields of an axis record that no command to the axis changes. -/
structure AxisRec.Kept (r t : AxisRec) : Prop where
  position : t.position = r.position
  confirmed : t.confirmed = r.confirmed

/-- The port records after some flags, or none, have been raised. -/
def Signalled (v w : PerPort PortRec) : Prop :=
  w = v ∨ ∃ f, w = v.map fun r => r.withFlags (r.flags ||| f)

/-- What scheduling, pouring and travelling leave alone. -/
structure Kept (s t : State) : Prop where
  now : t.now = s.now
  inReset : t.inReset = s.inReset
  inputs : t.inputs = s.inputs
  river : t.river = s.river
  suspension : t.suspension = s.suspension
  ship : Ship.Kept s.ship t.ship
  weigh : t.weigh = s.weigh
  dust : t.dust = s.dust
  lots : t.lots = s.lots
  bank : t.bank = s.bank
  settings : t.settings = s.settings
  store : t.store = s.store
  pending : t.pending = s.pending
  records : t.belt.records = s.belt.records
  counter : t.belt.counter = s.belt.counter
  lastSpill : t.belt.lastSpill = s.belt.lastSpill
  passes : Passes.Kept s.passes t.passes
  reasons : t.pour.reasons = s.pour.reasons
  manual : t.spout.manual = s.spout.manual
  hold : ∀ h, Hold.Kept (s.hold h) (t.hold h)
  order : ∀ o, Order.Kept (s.order o) (t.order o)
  axis : ∀ a, AxisRec.Kept (s.axis a) (t.axis a)
  ports : Signalled s.ports t.ports

/-! ### Pause reasons (chapter 4) -/

/-- What a pause reason added leads to (R68 to R70): `s` is the state before it. -/
def ReasonAdded (r : PauseReason) (s u : State) : Prop :=
  let t := { s with pour.reasons := s.pour.reasons.put r true }
  (∀ ret, (s.sched.state = .travelling ∧ ret = .travelling) ∨ (s.sched.state = .pouring ∧ ret = .pouring) →
    s.pour.reasons = ⟨false, false, false, false⟩ → PourPauses ret t u ∧ Kept t u) ∧
  ((s.sched.state ≠ .travelling ∧ s.sched.state ≠ .pouring ∨ s.pour.reasons ≠ ⟨false, false, false, false⟩) →
    (s.sched.state = .paused ∧ r = .manual → u = { t with pour.manualSeen := true }) ∧
      (s.sched.state ≠ .paused ∨ r ≠ .manual → u = t))

/-- What a pause reason removed leads to (R69, R70): `s` is the state before it. -/
def ReasonRemoved (r : PauseReason) (s u : State) : Prop :=
  let t := { s with pour.reasons := s.pour.reasons.put r false }
  (s.sched.state ≠ .paused ∨ s.pour.reasons = ⟨false, false, false, false⟩ ∨ t.pour.reasons ≠ ⟨false, false, false, false⟩ →
    u = t) ∧
  (s.sched.state = .paused → s.pour.reasons ≠ ⟨false, false, false, false⟩ →
    t.pour.reasons = ⟨false, false, false, false⟩ → PauseLeft t u ∧ Kept t u)

/-! ### Deliveries (chapter 8) -/

/-- The material falls into hold `h` (R139): under an asserted run line into the active hold; else into the lowest hold whose opening
the spout is in, or, outside every opening, it is charged to the last pour hold as a spill. -/
def State.FallsInto (s : State) (h : HoldId) (spills : Bool) : Prop :=
  (s.pour.runLine = true → s.pourHold = some h ∧ spills = false) ∧
    (s.pour.runLine = false →
      (s.holdUnder = some h ∧ spills = false) ∨ (s.holdUnder = none ∧ s.belt.lastHold = some h ∧ spills = true))

/-- The charges of the delivery of the record at the head into hold `h` (R140, R142). -/
def State.deliveredTo (s : State) (r : Transit) (h : HoldId) (l : LotSlot) (spills : Bool) : State :=
  let t := s.landed r s.belt.records.tail h l
  let w :=
    if spills then raise .spill { t with belt.lastSpill := some ⟨r.batch, r.lot, r.net, h, s.belt.counter⟩ } else t
  match s.pourOrder with
  | some o => w.credited r o
  | none => w

/-- The drain test of a lot (R167, R168): a CLOSING lot not yet drained with no material in flight becomes drained, and is billed at
once where the bill store has room and the counter is not exhausted. -/
def DrainTested (number : Nat) (l : LotSlot) (w u : State) : Prop :=
  ((w.lot l).state = .closing ∧ (w.lot l).drained = false ∧ (∀ r ∈ w.belt.records, r.lot ≠ number) ∧
      (∀ g, w.weigh.grant = some g → g.lot ≠ number) →
    (w.bank.bills.length < 12 → w.bank.exhausted = false → u = w.billed l) ∧
      (12 ≤ w.bank.bills.length ∨ w.bank.exhausted = true → u = w.setLot l { w.lot l with drained := true })) ∧
  ((w.lot l).state ≠ .closing ∨ (w.lot l).drained = true ∨ (∃ r ∈ w.belt.records, r.lot = number) ∨
      (∃ g, w.weigh.grant = some g ∧ g.lot = number) → u = w)

/-- Records delivered one after another from the head of the queue (R138, R142, R143): each is charged, is a clearance recompute
event, takes the finalisation test (R75), and makes the drain test of its lot. -/
def Delivered : List Transit → State → State → Prop
  | [], s, u => u = s
  | r :: due, s, u =>
    ∃ (h : HoldId) (spills : Bool) (l : LotSlot) (v w x : State), s.FallsInto h spills ∧ s.lotSlot r.lot = some l ∧
      Recomputed (s.deliveredTo r h l spills) v ∧ FinalisationTested v w ∧ Kept (s.deliveredTo r h l spills) w ∧
      DrainTested r.lot l w x ∧ Delivered due x u

end Sys2Proof.Machine
end

