-- ==== Sys2Proof/Certificates/Slice0/Obligations.lean ====
section
/-! DEFINITION. The statements for the provers: the port protocol, reset and start-up, the laws of the device, and for every command
what it does in the cases its rules name. -/

open Sys2Proof Sys2Proof.Machine

/-! ### The queue, the frames and the ports (chapter 11) -/

/-- A step of a state with a command at the front of its queue is that command on the state with the queue's rest; with no command
waiting one ms passes, which is the model's choice (notes/assumptions/1.md). Every command, in every state, answers a next state: none
faults and none is refused by the model (R177, R179). -/
def Obligations.StepTakesFrontCommand : Prop :=
  ∀ s : State,
    (s.pending = [] → step s = .next { s with now := s.now + 1 }) ∧
      ∀ c : Instr, step { s with pending := c :: s.pending } = exec c s ∧ ∃ t, exec c s = .next t

/-- The code and body of a well-formed request read back as that request at its port (R174, R175). -/
def Obligations.RequestsRoundTrip : Prop :=
  ∀ (c : Instr) (p : Port), c.wellFormed = true → c.requestPort = some p →
    decodeRequest p c.requestCode c.requestBody = some c

/-- What a frame's code and body spell is a well-formed request at that port, and it has that code and that body: no bit of a frame
is dropped and no two bodies spell one request (R174, R175, R178). -/
def Obligations.BodiesReadExactly : Prop :=
  ∀ (p : Port) (code : Byte) (body : List Byte) (c : Instr), body.length ≤ 249 → decodeRequest p code body = some c →
    c.wellFormed = true ∧ c.requestPort = some p ∧ c.requestCode = code ∧ c.requestBody = body

/-- The bytes of a request's frame, arriving one after another at an IDLE port, do what the request does (R174, R176, R177). -/
def Obligations.BytesSpellRequests : Prop :=
  ∀ (c : Instr) (p : Port) (s : State), c.wellFormed = true → c.requestPort = some p → s.inReset = false →
    (s.port p).rx = .idle → feed p c.requestFrame s = exec c s

/-- A byte arrival by the receive condition of its port, a gap, a framing error and a discarded frame (R176). The byte that completes
a frame whose CRC is right does what that code and body do on the port, IDLE again. That an expiry brings the clock to its deadline,
that it changes nothing in IDLE, what FRAME_REFUSED and FRAME_DISCARDED carry and do, and that a byte without its stop bit leaves an
IDLE port IDLE, are the model's choice (notes/assumptions/2.md, notes/assumptions/17.md, notes/assumptions/38.md). -/
def Obligations.BytesReceived : Prop :=
  ∀ (s : State) (p : Port), s.inReset = false →
    (∀ b, (s.port p).rx = .idle → b ≠ 0xA5 → exec (.byteArrival p b) s = .next s) ∧
    ((s.port p).rx = .idle →
      exec (.byteArrival p 0xA5) s = .next (s.setPort p { s.port p with rx := .inFrame [] s.now })) ∧
    (∀ b last, (s.port p).rx = .inFrame [] last → s.now ≤ last + 20 →
      exec (.byteArrival p b) s = .next (s.setPort p
        { s.port p with rx := if b.toNat = 0 ∨ 250 < b.toNat then .idle else .inFrame [b] s.now })) ∧
    (∀ n got b last, (s.port p).rx = .inFrame (n :: got) last → s.now ≤ last + 20 → got.length + 1 < n.toNat + 2 →
      exec (.byteArrival p b) s = .next (s.setPort p { s.port p with rx := .inFrame (n :: (got ++ [b])) s.now })) ∧
    (∀ n got b last, (s.port p).rx = .inFrame (n :: got) last → s.now ≤ last + 20 → got.length + 1 = n.toNat + 2 →
      (got ++ [b]).drop n.toNat ≠ bytes16 (crc (n :: (got ++ [b]).take n.toNat)) →
      exec (.byteArrival p b) s = .next (s.setPort p { s.port p with rx := .idle })) ∧
    (∀ n code body b last, (s.port p).rx = .inFrame (n :: code :: body) last → s.now ≤ last + 20 → body.length = n.toNat →
      ((code :: body) ++ [b]).drop n.toNat = bytes16 (crc (n :: ((code :: body) ++ [b]).take n.toNat)) →
      exec (.byteArrival p b) s =
        exec (.frameRefused p code (body.take (n.toNat - 1))) (s.setPort p { s.port p with rx := .idle })) ∧
    (∀ got b last, (s.port p).rx = .inFrame got last → last + 20 < s.now →
      exec (.byteArrival p b) s = exec (.byteArrival p b) (s.setPort p { s.port p with rx := .idle })) ∧
    (∀ got last, (s.port p).rx = .inFrame got last →
      exec (.frameGapTimeout p) s =
        .next ({ s with now := max s.now (last + 21) }.setPort p { s.port p with rx := .idle })) ∧
    ((s.port p).rx = .idle → exec (.frameGapTimeout p) s = .next s) ∧
    exec (.framingError p) s = .next (s.setPort p { s.port p with rx := .idle }) ∧
    exec (.frameDiscarded p) s = .next (s.setPort p { s.port p with rx := .idle })

/-- A complete frame whose code names no request, or whose body does not fit, is answered BAD_FIELD and changes nothing else; one
that spells a request is that request (R178). The codes that name no request are 0 and those above 2EH (R175). That FRAME_REFUSED
carries a code and a body and is the request they spell (notes/assumptions/17.md), and that the code of a reply to a code of 80H or
more is a free value (notes/assumptions/10.md), are the model's choice. -/
def Obligations.FramesRefused : Prop :=
  (∀ (p : Port) (code : Byte) (body : List Byte), code = 0 ∨ 0x2E < code.toNat → decodeRequest p code body = none) ∧
    (∀ (s : State) (p : Port) (code : Byte) (body : List Byte), s.takes p → body.length ≤ 249 → code.toNat < 0x80 →
      decodeRequest p code body = none → exec (.frameRefused p code body) s = .next (s.answered p code .badField)) ∧
    (∀ (s : State) (p : Port) (code : Byte) (body : List Byte), s.takes p → body.length ≤ 249 → 0x80 ≤ code.toNat →
      exec (.frameRefused p code body) s = .next (s.setPort p { s.port p with
        rx := .idle, waiting := (s.port p).waiting ++ [⟨Config.replyCode code, .badField, []⟩] })) ∧
    (∀ (s : State) (c : Instr) (p : Port), c.wellFormed = true → c.requestPort = some p →
      exec (.frameRefused p c.requestCode c.requestBody) s = exec c s)

/-- A request on a port that may not send it is answered NOT_PERMITTED and changes nothing else (R178). While two replies wait on
a port, any complete request frame there is discarded: no reply, no change but the receive condition (R177). -/
def Obligations.FramesTurnedAway : Prop :=
  ∀ (s : State) (c : Instr) (p : Port), c.requestPort = some p → s.inReset = false →
    (c.wellFormed = true → (s.port p).waiting.length < 2 → p ∉ c.senders →
      exec c s = .next (s.answered p c.requestCode .notPermitted)) ∧
    (2 ≤ (s.port p).waiting.length → exec c s = .next (s.setPort p { s.port p with rx := .idle }))

/-- A reply sent leaves the head of its port's waiting replies; a rate that waited for it takes effect and drops a frame in progress
(R177, R183); of two rates that wait, each takes effect after its own replies, the one written last for good where both are due.
That `sent` keeps the bytes last transmitted is the model's choice (notes/assumptions/19.md). -/
def Obligations.RepliesSent : Prop :=
  ∀ (s : State) (p : Port), s.inReset = false →
    ((s.port p).waiting = [] → exec (.replySent p) s = .next s) ∧
    ∀ r rest, (s.port p).waiting = r :: rest →
      ((s.port p).rateChanges = [] →
        exec (.replySent p) s = .next (s.setPort p { s.port p with waiting := rest, sent := r.frame })) ∧
      (∀ rate, (s.port p).rateChanges = [(rate, 1)] →
        exec (.replySent p) s = .next (s.setPort p
          { s.port p with waiting := rest, sent := r.frame, rate := rate, rateChanges := [], rx := .idle })) ∧
      (∀ rate n, (s.port p).rateChanges = [(rate, n + 2)] →
        exec (.replySent p) s = .next (s.setPort p
          { s.port p with waiting := rest, sent := r.frame, rateChanges := [(rate, n + 1)] })) ∧
      ∀ a b, ((s.port p).rateChanges = [(a, 1), (b, 1)] →
          exec (.replySent p) s = .next (s.setPort p
            { s.port p with waiting := rest, sent := r.frame, rate := b, rateChanges := [], rx := .idle })) ∧
        (∀ n, (s.port p).rateChanges = [(a, 1), (b, n + 2)] →
          exec (.replySent p) s = .next (s.setPort p
            { s.port p with waiting := rest, sent := r.frame, rate := a, rateChanges := [(b, n + 1)], rx := .idle })) ∧
        (∀ m n, (s.port p).rateChanges = [(a, m + 2), (b, n + 2)] →
          exec (.replySent p) s = .next (s.setPort p
            { s.port p with waiting := rest, sent := r.frame, rateChanges := [(a, m + 1), (b, n + 1)] }))

/-- READ EVENTS gives the port's flag set and empties it, deasserting its attention line; SET EVENT ENABLE replaces the port's
enables, asserts the line while flags and enables share a flag, and refuses a bit that stands for no flag (R180, R181). -/
def Obligations.EventsReadAndEnabled : Prop :=
  ∀ (s : State) (p : Port), s.takes p →
    exec (.readEvents p) s =
      .next ((s.setPort p { s.port p with flags := 0, attention := false }).answered p 0x2D .done (bytes16 (s.port p).flags)) ∧
    ∀ set : BitVec 16,
      (set.toNat < 2048 →
        exec (.setEventEnable p set) s =
          .next ((s.setPort p
            { s.port p with enables := set, attention := decide ((s.port p).flags &&& set ≠ 0) }).answered p 0x2E .done
              (bytes16 set))) ∧
      (2048 ≤ set.toNat → exec (.setEventEnable p set) s = .next (s.answered p 0x2E .badField))

/-! ### Reset and start-up (section 11.6) -/

/-- The reset input holds every output deasserted and every drive at STOP, and while it is asserted no request, arrival or expiry
changes anything (R184). That every other item of the state is kept until start-up, and that the levels of the emergency stop, drive
fault and belt confirm inputs alone are noted meanwhile, asserted and released, is the model's inference
(notes/assumptions/5.md). -/
def Obligations.ResetHoldsOutputs : Prop :=
  ∀ s : State,
    exec .reset s = .next { s with
      inReset := true
      pour.runLine := false
      dust.beacon := false
      dust.hornOn := false
      axes := s.axes.map fun r => { r with commanded := .stop }
      ports := s.ports.map fun r => { r with attention := false } } ∧
    (s.inReset = true → ∀ c : Instr, c ≠ .reset → c ≠ .startUp → c ≠ .emergencyStopAssert → c ≠ .emergencyStopRelease →
      (∀ a, c ≠ .driveFaultAssert a ∧ c ≠ .driveFaultRelease a) → (∀ b, c ≠ .beltConfirmChange b) → exec c s = .next s) ∧
    (s.inReset = true →
      exec .emergencyStopAssert s = .next { s with inputs.eStop := true } ∧
      exec .emergencyStopRelease s = .next { s with inputs.eStop := false } ∧
      (∀ a, exec (.driveFaultAssert a) s = .next { s with inputs.driveFault := s.inputs.driveFault.set a true } ∧
        exec (.driveFaultRelease a) s = .next { s with inputs.driveFault := s.inputs.driveFault.set a false }) ∧
      ∀ b, exec (.beltConfirmChange b) s = .next { s with inputs.beltConfirm := b })

/-- Start-up (R185): the settings loaded from a VALID image or defaulted, every block at its reset values, every port cleared,
SETTINGS_DEFAULT raised for an INVALID store, an emergency stop and the drive faults found asserted taken as assertions. That it is
performed in any state, reset asserted or not (notes/assumptions/5.md), that rates not yet in effect are dropped
(notes/assumptions/35.md) and that the transmit line's `sent` is empty (notes/assumptions/19.md) are the model's choice. -/
def Obligations.StartUpLoadsAndClears : Prop :=
  ∀ s : State, ∃ t, exec .startUp s = .next t ∧ t.inReset = false ∧ t.now = s.now ∧ t.inputs = s.inputs ∧
    t.pending = s.pending ∧
    t.settings = (if s.store.valid then s.store.image else Settings.default) ∧
    t.store.image = s.store.image ∧ t.store.valid = s.store.valid ∧ t.store.cond = .idle ∧
    (∀ h, t.hold h = Hold.undeclared) ∧ t.ship = ⟨0, .bowPositive, none, none, 0, 0⟩ ∧ t.river = ⟨0, s.now, false⟩ ∧
    t.suspension = ⟨0, []⟩ ∧ (∀ o, t.order o = Order.free) ∧ (∀ h, t.queue h = []) ∧ t.lastEnded = none ∧
    t.passes = Passes.cleared ∧ t.sched = Sched.cleared ∧ t.pour = Pour.cleared ∧ t.spout = Spout.cleared ∧
    t.weigh = ⟨false, none, 1, none⟩ ∧ t.belt = ⟨[], 0, none, none⟩ ∧ (∀ c, t.channel c = ChannelRec.cleared) ∧
    t.dust.beacon = false ∧ t.dust.hornOn = s.inputs.eStop ∧ (∀ l, t.lot l = Lot.free) ∧ t.bank = ⟨[], [], 1, false⟩ ∧
    (∀ a, t.axis a =
      if s.inputs.driveFault.get a then { AxisRec.cleared with state := .fault, reason := some .drive } else AxisRec.cleared) ∧
    ∀ p, t.port p = ⟨.idle, [],
      (if s.store.valid then 0 else 0x0400) ||| (if s.inputs.driveFault = ⟨false, false, false⟩ then 0 else 0x0020), 0, false,
      (if s.store.valid then s.store.image else Settings.default).rates.get p, [], []⟩

/-- The machine after reset holds the values the manual states (R1, R4, R10, R22, R36, R41, R60, R82, R119, R135, R148, R161, R168,
R170, R180 to R182); the VALID store with the default settings (notes/assumptions/3.md), the deasserted inputs
(notes/assumptions/4.md), the empty `sent` of the ports (notes/assumptions/19.md) and their empty rate changes
(notes/assumptions/35.md) are the model's choice. Every law of the device holds of it. -/
def Obligations.ResetValuesAndLaws : Prop :=
  (∀ h, State.reset.hold h = ⟨false, ⟨0, 0, 0, 0, 0, 0, 0⟩, none, true, 0, 0, 0, none, none⟩) ∧
  State.reset.ship = ⟨0, .bowPositive, none, none, 0, 0⟩ ∧ State.reset.river.level = 0 ∧
  State.reset.river.lastValid = State.reset.now ∧ State.reset.suspension = ⟨0, []⟩ ∧
  (∀ o, State.reset.order o = ⟨.free, 0, none, 0, 0, 0, 0, 0, none, false, false, 0, 0, none, none⟩) ∧
  (∀ h, State.reset.queue h = []) ∧ State.reset.lastEnded = none ∧
  (∀ n : PassId, State.reset.passes.inEffect[n] = [] ∧ State.reset.passes.staged[n] = []) ∧
  State.reset.passes.pendingEdit = false ∧ State.reset.sched.state = .stopped ∧ State.reset.sched.pass = 0 ∧
  State.reset.sched.pos = 0 ∧ State.reset.sched.progress = false ∧ (∀ h : HoldId, State.reset.sched.held[h] = none) ∧
  State.reset.sched.halts = ⟨false, false, false, false⟩ ∧ State.reset.sched.active = none ∧
  State.reset.sched.stepFlag = false ∧
  State.reset.pour = ⟨⟨false, false, false, false⟩, none, false, none, false, .off, none⟩ ∧
  (∀ a, State.reset.axis a = ⟨.idle, none, none, none, .stop, .stop, none, none, none⟩) ∧
  State.reset.spout = ⟨false, .none, none, none, none, none⟩ ∧ State.reset.weigh = ⟨false, none, 1, none⟩ ∧
  State.reset.belt = ⟨[], 0, none, none⟩ ∧ (∀ c, State.reset.channel c = ⟨.normal, 0, 0, 0, none, none, none⟩) ∧
  State.reset.dust.beacon = false ∧ State.reset.dust.hornOn = false ∧
  (∀ l, State.reset.lot l = ⟨.free, 0, 0, 0, none, 0, 0, 0, none, none, [], false⟩) ∧
  State.reset.bank = ⟨[], [], 1, false⟩ ∧ (∀ p, State.reset.port p = ⟨.idle, [], 0, 0, false, 38400, [], []⟩) ∧
  State.reset.settings = Settings.default ∧ State.reset.store = ⟨Settings.default, true, .idle, none⟩ ∧
  State.reset.inputs = ⟨false, ⟨false, false, false⟩, false⟩ ∧ PassesLaw State.reset ∧ GradeLaw State.reset ∧
  SuspensionLaw State.reset ∧ BeltLaw State.reset ∧ BatchLaw State.reset ∧ BillLaw State.reset ∧ PortsLaw State.reset ∧
  BeaconLaw State.reset ∧ ActiveLaw State.reset ∧ RunLineLaw State.reset ∧ QueueLaw State.reset ∧
  ExclusionLaw State.reset ∧ PauseLaw State.reset ∧ AxesLaw State.reset ∧ TraverseLaw State.reset ∧ TransitLaw State.reset ∧
  SettingsLaw State.reset ∧ AccountsLaw State.reset ∧ ReceivingLaw State.reset ∧ BalanceLaw State.reset ∧
  HeadroomLaw State.reset

/-! ### The laws of the device -/

/-- Every step keeps the law of the suspension stack (R18), the law of the transit queue (R136) with the batch numbers in 1 to 65,535
(R124), the law of the bill store (R170), every setting within its range and relations (R183), and the law of the passes: no chain
names a hold twice, and the staged list is the list in effect while no edit waits (R36, R37). -/
def Obligations.StoresLawsKept : Prop :=
  ∀ s t : State, step s = .next t →
    (SuspensionLaw s → SuspensionLaw t) ∧ (BeltLaw s → BatchLaw s → BeltLaw t ∧ BatchLaw t) ∧ (BillLaw s → BillLaw t) ∧
      (SettingsLaw s → SettingsLaw t) ∧ (PassesLaw s → PassesLaw t)

/-- Every step keeps the law of the ports: at most two replies wait, and the attention line shows whether flags and enables have a
flag in common (R177, R181). -/
def Obligations.PortsLawKept : Prop := ∀ s t : State, PortsLaw s → step s = .next t → PortsLaw t

/-- Every step keeps the law of the beacon, and a reset and a start-up leave it off (R158). -/
def Obligations.BeaconLawKept : Prop :=
  (∀ s t : State, BeaconLaw s → step s = .next t → BeaconLaw t) ∧
    ∀ s t : State, exec .reset s = .next t ∨ exec .startUp s = .next t → t.dust.beacon = false

/-- Every step keeps the law of the active order: the scheduler names one exactly in the pour states, and that order alone is ACTIVE
(R25, R41); and, with it, the law of the belt run line (R63). -/
def Obligations.ActiveLawKept : Prop :=
  ∀ s t : State, step s = .next t → ActiveLaw s → ActiveLaw t ∧ (RunLineLaw s → RunLineLaw t)

/-- Every step keeps the law of the hold queues: an order is on its hold's queue exactly when it is READY, ACTIVE or STALLED, no
queue names one twice, an ACTIVE order is the top of its queue (R25); the law that the hold of the ACTIVE order is never in the
exclusion set (R21); and the law of the grades: while the run line is asserted, the lot of every transit record passes the grade
test of the active order's hold (R145). -/
def Obligations.ExclusionLawKept : Prop :=
  (∀ s t : State, ActiveLaw s → QueueLaw s → ExclusionLaw s → step s = .next t → QueueLaw t ∧ ExclusionLaw t) ∧
    ∀ s t : State, ActiveLaw s → RunLineLaw s → QueueLaw s → AccountsLaw s → ReceivingLaw s → GradeLaw s →
      step s = .next t → GradeLaw t

/-- Every step keeps the law of the pauses (R67 to R70, R101): MANUAL is in the set exactly under MANUAL authority, and DUST_PLANT
exactly while a channel other than HEAD has effective level STOP (R157). -/
def Obligations.PauseLawKept : Prop := ∀ s t : State, ActiveLaw s → PauseLaw s → step s = .next t → PauseLaw t

/-- Every step keeps the law of the axes (R79, R84 to R89). -/
def Obligations.AxesLawKept : Prop := ∀ s t : State, AxesLaw s → step s = .next t → AxesLaw t

/-- Every step keeps the law of the traverse (R94, R95, R106). -/
def Obligations.TraverseLawKept : Prop :=
  ∀ s t : State, ActiveLaw s → PauseLaw s → TraverseLaw s → step s = .next t → TraverseLaw t

/-- Every step keeps the law of the orders' material on the belt and under grant (R31), where the settings are in their ranges. -/
def Obligations.TransitLawKept : Prop :=
  ∀ s t : State, ActiveLaw s → SettingsLaw s → TransitLaw s → step s = .next t → TransitLaw t

/-- Every step keeps the balances of the tonnages: an account's weighed_kg is its allocations plus its records on the belt (R164), a
hold's loaded_kg is its billed_kg plus the allocations of it not yet billed (R12), a bill's weighed_kg is its allocations (R168);
with the law of the accounts, among it that the closing queue holds exactly the lot numbers of the CLOSING lots (R166); and the
bound of R12 and R122 on the material of a session. -/
def Obligations.MassBalanceKept : Prop :=
  (∀ s t : State, ActiveLaw s → RunLineLaw s → QueueLaw s → TransitLaw s → AccountsLaw s → ReceivingLaw s → BalanceLaw s →
    step s = .next t → AccountsLaw t ∧ ReceivingLaw t ∧ BalanceLaw t) ∧
  ∀ s t : State, SettingsLaw s → HeadroomLaw s → step s = .next t → HeadroomLaw t

/-! ### The vessel session (section 10.7) -/

/-- VESSEL OPEN with a code other than 0 and no vessel open clears the session's state and leaves what outlasts a vessel;
VESSEL CLOSE does the same under its five conditions, with vessel code 0, and is refused with STATE where one fails (R172, R173).
MASK_CHANGED is raised where the exclusion set was not empty (R20). -/
def Obligations.SessionsOpenedAndClosed : Prop :=
  ∀ s : State, s.takes .station →
    (∀ code : BitVec 16, code ≠ 0 → s.vesselOpen = false →
      ∃ u, SessionCleared code s u ∧ Signalled s.ports u.ports ∧ (s.exclusion ≠ 0 → u.flagged .maskChanged) ∧
        exec (.vesselOpen .station code) s = .next (u.answered .station 0x01 .done)) ∧
    (∀ code : BitVec 16, code ≠ 0 → s.vesselOpen = true →
      exec (.vesselOpen .station code) s = .next (s.answered .station 0x01 .state)) ∧
    exec (.vesselOpen .station 0) s = .next (s.answered .station 0x01 .badField) ∧
    (s.vesselOpen = true → s.sched.state = .stopped ∨ s.sched.state = .complete ∨ s.sched.state = .held →
      (∀ l, (s.lot l).state = .free) → s.belt.records = [] → s.weigh.grant = none →
      ∃ u, SessionCleared 0 s u ∧ Signalled s.ports u.ports ∧ (s.exclusion ≠ 0 → u.flagged .maskChanged) ∧
        (s.sched.state ≠ .stopped → u.flagged .schedule) ∧
        exec (.vesselClose .station) s = .next (u.answered .station 0x02 .done)) ∧
    (s.vesselOpen = false ∨ s.sched.state = .seeking ∨ s.sched.state = .halted ∨ s.sched.state.isPour = true ∨
        (∃ l, (s.lot l).state ≠ .free) ∨ s.belt.records ≠ [] ∨ s.weigh.grant ≠ none →
      exec (.vesselClose .station) s = .next (s.answered .station 0x02 .state))

/-! ### Holds, ship particulars and exclusion (chapter 1) -/

/-- DECLARE HOLD from the station with fields that pass the size test (R3, R6, R8): a hold not yet declared is declared at once
with its fields clamped; a declared one is staged in a pour state and committed at once elsewhere. Fields that fail the test are
refused with BAD_FIELD, as is a hold outside 1 to 8; with no vessel open the request is refused with STATE (R2). A first
declaration is a clearance recompute event (R97). The reply of the five clamped fields (notes/assumptions/9.md) and, in that event,
that a SPOUT still MOVING where RAISE completes goes on to its old target (notes/assumptions/36.md) are the model's choice, that each
re-computation writes the travel height its inference (notes/assumptions/23.md). -/
def Obligations.HoldsDeclaredAndAmended : Prop :=
  ∀ (s : State) (b : Byte) (fx ax iy oy co : BitVec 16) (key mask : Byte), s.takes .station →
    (b = 0 ∨ 8 < b.toNat →
      exec (.declareHold .station b fx ax iy oy co key mask) s = .next (s.answered .station 0x03 .badField)) ∧
    (1 ≤ b.toNat → b.toNat ≤ 8 → s.vesselOpen = false →
      exec (.declareHold .station b fx ax iy oy co key mask) s = .next (s.answered .station 0x03 .state)) ∧
    ∀ (h : HoldId) (g : HoldGeom), s.vesselOpen = true → b.toNat = h.val + 1 →
    g = ⟨max (-20000) (min 20000 fx.toInt), max (-20000) (min 20000 ax.toInt), min 4000 iy.toNat, min 4000 oy.toNat,
      min 400 co.toNat, key, mask⟩ →
    (6 * (s.settings.hatchMargin : Int) + 300 ≤ g.aftX - g.foreX →
      6 * (s.settings.hatchMargin : Int) + 300 ≤ g.outerY - g.innerY →
      ((s.hold h).declared = false →
        ∃ t u, t = s.setHold h ⟨true, g, none, true, 0, 0, 0, none, none⟩ ∧ Recomputed t u ∧ Kept t u ∧ u.hold h = t.hold h ∧
          exec (.declareHold .station b fx ax iy oy co key mask) s = .next (u.answered .station 0x03 .done g.used)) ∧
      ((s.hold h).declared = true → s.sched.state.isPour = true →
        exec (.declareHold .station b fx ax iy oy co key mask) s =
          .next ((s.setHold h { s.hold h with staged := some g }).answered .station 0x03 .done g.used)) ∧
      ((s.hold h).declared = true → s.sched.state.isPour = false →
        ∃ t u, t = s.setHold h { s.hold h with staged := some g } ∧ (t.AmendmentsDiffer → u = t.amended.woken) ∧
          (¬t.AmendmentsDiffer → u = t.amended) ∧
          exec (.declareHold .station b fx ax iy oy co key mask) s = .next (u.answered .station 0x03 .done g.used))) ∧
    (g.aftX - g.foreX < 6 * (s.settings.hatchMargin : Int) + 300 ∨
        g.outerY - g.innerY < 6 * (s.settings.hatchMargin : Int) + 300 →
      exec (.declareHold .station b fx ax iy oy co key mask) s = .next (s.answered .station 0x03 .badField))

/-- SET SHIP OFFSET from the station or the ship stages the clamped offset and the heading (R7): they wait in a pour state and are
committed at once, with every other amendment, elsewhere (R8). -/
def Obligations.ShipOffsetStaged : Prop :=
  ∀ (s : State) (p : Port) (offset : BitVec 16) (b : Byte) (hd : Heading) (x : Int), p = .station ∨ p = .ship →
    s.takes p → s.vesselOpen = true → b.toNat = hd.place → x = max (-20000) (min 20000 offset.toInt) →
    (s.sched.state.isPour = true →
      exec (.setShipOffset p offset b) s =
        .next ({ s with ship.staged := some (x, hd) }.answered p 0x27 .done (s16 x))) ∧
    (s.sched.state.isPour = false →
      ∃ t u, t = { s with ship.staged := some (x, hd) } ∧ (t.AmendmentsDiffer → u = t.amended.woken) ∧
        (¬t.AmendmentsDiffer → u = t.amended) ∧ u.ship.offset = x ∧ u.ship.heading = hd ∧ u.ship.staged = none ∧
        exec (.setShipOffset p offset b) s = .next (u.answered p 0x27 .done (s16 x)))

/-- SET HOLD LIMIT on a declared hold writes the limit clamped at 500,000,000 kg and is a wake event; where it leaves the hold of a
POURING order FULL, the pour ends orderly with TOPPED (R14, R72): it drains, or with the belt clear finalises at once (R75, R54, R55).
That the entry into DRAINING gives the SPOUT no tracking move is the model's inference (notes/assumptions/30.md). -/
def Obligations.HoldLimitSet : Prop :=
  ∀ (s : State) (b : Byte) (h : HoldId) (limit : BitVec 32), s.takes .ship → s.vesselOpen = true →
    b.toNat = h.val + 1 →
    ((s.hold h).declared = true →
      (s.sched.state ≠ .pouring ∨ s.pourHold ≠ some h ∨
          s.settings.bMin ≤ min 500000000 limit.toNat - s.committed h →
        exec (.setHoldLimit .ship b limit) s =
          .next ((s.setHold h { s.hold h with limit := min 500000000 limit.toNat }).woken.answered .ship 0x1D .done
            (u32 (min 500000000 limit.toNat)))) ∧
      (s.sched.state = .pouring → s.pourHold = some h →
        min 500000000 limit.toNat - s.committed h < s.settings.bMin →
        ∃ t u, t = s.setHold h { s.hold h with limit := min 500000000 limit.toNat } ∧ OrderlyEnds .topped t u ∧ Kept t u ∧
          exec (.setHoldLimit .ship b limit) s =
            .next (u.answered .ship 0x1D .done (u32 (min 500000000 limit.toNat))))) ∧
    ((s.hold h).declared = false → exec (.setHoldLimit .ship b limit) s = .next (s.answered .ship 0x1D .unknown))

/-- CLOSE HATCH and OPEN HATCH on a declared hold write its hatch condition and no other field of it; the exclusion set is formed
anew, an opening is a wake event, a hatch already so is answered DONE without a change, and closing the hatch over the pour in
progress ends that pour at once with YIELD (R15, R20, R21, R28, R76), after which the scheduler walks on (R54). That an opening which
also changes the exclusion set wakes the scheduler once, and that the wake of the change stands before the end of the pour, is the
model's inference (notes/assumptions/8.md), and the reply bytes OPEN 0 and CLOSED 1 are its choice (notes/assumptions/9.md). -/
def Obligations.HatchesClosedAndOpened : Prop :=
  ∀ (s : State) (b : Byte) (h : HoldId), s.takes .ship → s.vesselOpen = true → b.toNat = h.val + 1 →
    (s.hold h).declared = true →
    (s.pourHold ≠ some h ∨ inSet s.exclusion h = true →
      exec (.closeHatch .ship b) s =
        .next (((s.setHold h { s.hold h with hatchOpen := false }).maskFormed s.exclusion).answered .ship 0x1E .done [1])) ∧
    (∀ o, s.pourOrder = some o → s.pourHold = some h → inSet s.exclusion h = false →
      exec (.closeHatch .ship b) s =
        .next ((((raise .maskChanged (s.setHold h { s.hold h with hatchOpen := false })).orderYielded o).pourOver.walkedOn).answered
          .ship 0x1E .done [1])) ∧
    ((s.hold h).hatchOpen = true → exec (.openHatch .ship b) s = .next (s.answered .ship 0x1F .done [0])) ∧
    ((s.hold h).hatchOpen = false → inSet s.suspension.mask h = false → (s.hold h).lockout = none →
      exec (.openHatch .ship b) s =
        .next ((raise .maskChanged (s.setHold h { s.hold h with hatchOpen := true })).woken.answered .ship 0x1F .done [0])) ∧
    ((s.hold h).hatchOpen = false → inSet s.suspension.mask h = true ∨ (s.hold h).lockout ≠ none →
      exec (.openHatch .ship b) s =
        .next ((s.setHold h { s.hold h with hatchOpen := true }).woken.answered .ship 0x1F .done [0]))

/-- REPORT DRAFT with 1 to 8 declared holds, none twice, writes their clamped freeboards and makes loaded_at_report_kg the total
loaded; SET TPC writes the clamped TPC, or absent for 0, and not loaded_at_report_kg (R16, R17). A list that names no hold or one
hold twice is refused with BAD_FIELD, one that names an undeclared hold with UNKNOWN. Either request taken makes the wake test
for CLEARANCE findings (R56) and is a clearance recompute event for the travel or the tracking in hand (R97, R100). In that event, that
a SPOUT still MOVING where RAISE completes goes on to its old target is the model's choice (notes/assumptions/36.md), that each
re-computation writes the travel height its inference (notes/assumptions/23.md). -/
def Obligations.DraftAndTpcReported : Prop :=
  ∀ s : State, s.takes .ship → s.vesselOpen = true →
    (∀ draft : List (HoldId × BitVec 16),
      let entries := draft.map fun e => (BitVec.ofNat 8 (e.1.val + 1), e.2)
      (draft ≠ [] → (draft.map Prod.fst).Nodup →
        ((∀ e ∈ draft, (s.hold e.1).declared = true) →
          ∃ t u, t = { s with
              holds := tabulate fun h => { s.hold h with
                freeboard := match draft.find? fun e => e.1 == h with
                  | some e => some (min 2000 e.2.toNat)
                  | none => (s.hold h).freeboard }
              ship.loadedAtReport := s.totalLoaded } ∧ HeightsChanged t u ∧ Kept t u ∧
            exec (.reportDraft .ship entries) s =
              .next (u.answered .ship 0x1B .done (list (fun e => u16 (min 2000 e.2.toNat)) draft))) ∧
        ((∃ e ∈ draft, (s.hold e.1).declared = false) →
          exec (.reportDraft .ship entries) s = .next (s.answered .ship 0x1B .unknown))) ∧
      (draft = [] ∨ (¬(draft.map Prod.fst).Nodup ∧ draft.length ≤ 82) →
        exec (.reportDraft .ship entries) s = .next (s.answered .ship 0x1B .badField))) ∧
    ∀ tpc : BitVec 32,
      (tpc = 0 → ∃ t u, t = { s with ship.tpc := none } ∧ HeightsChanged t u ∧ Kept t u ∧
        exec (.setTpc .ship tpc) s = .next (u.answered .ship 0x1C .done [0])) ∧
      (tpc ≠ 0 → ∃ t u, t = { s with ship.tpc := some (max 1000 (min 200000 tpc.toNat)) } ∧ HeightsChanged t u ∧ Kept t u ∧
        exec (.setTpc .ship tpc) s =
          .next (u.answered .ship 0x1C .done (1 :: u32 (max 1000 (min 200000 tpc.toNat)))))

/-- SUSPEND pushes the current mask and makes the mask the union with the holds carried; it is refused with FULL over six saved
masks and with BAD_FIELD for no hold; where the hold of the pour in progress enters the set by it, that pour ends with YIELD
(R18, R20, R21, R28, R76) and the scheduler walks on (R54). That the wake of the change stands before that end is the model's
inference (notes/assumptions/8.md). -/
def Obligations.HoldsSuspended : Prop :=
  ∀ (s t : State) (hs : List HoldId), s.takes .ship → s.vesselOpen = true → hs.Nodup →
    t = { s with suspension :=
      ⟨s.suspension.mask ||| setWhere fun h => hs.contains h, s.suspension.mask :: s.suspension.saved⟩ } →
    (hs ≠ [] → s.suspension.saved.length < 6 →
      ((∀ h, s.pourHold = some h → inSet s.exclusion h = true ∨ h ∉ hs) →
        exec (.suspend .ship (hs.map fun h => BitVec.ofNat 8 (h.val + 1))) s =
          .next ((t.maskFormed s.exclusion).answered .ship 0x20 .done
            (t.suspension.mask :: u8 (s.suspension.saved.length + 1)))) ∧
      (∀ h o, s.pourOrder = some o → s.pourHold = some h → inSet s.exclusion h = false → h ∈ hs →
        exec (.suspend .ship (hs.map fun h => BitVec.ofNat 8 (h.val + 1))) s =
          .next ((((raise .maskChanged t).orderYielded o).pourOver.walkedOn).answered .ship 0x20 .done
            (t.suspension.mask :: u8 (s.suspension.saved.length + 1))))) ∧
    (hs ≠ [] → 6 ≤ s.suspension.saved.length →
      exec (.suspend .ship (hs.map fun h => BitVec.ofNat 8 (h.val + 1))) s = .next (s.answered .ship 0x20 .full)) ∧
    exec (.suspend .ship []) s = .next (s.answered .ship 0x20 .badField)

/-- The exclusion set holds exactly the holds that are suspended, locked out, or declared with a CLOSED hatch (R20). RESUME makes the
newest saved mask the current one, under the law of the stack (R18): the exclusion set is formed anew with its
wake event, and no pour ends by it; an empty stack is refused with EMPTY (R19). -/
def Obligations.HoldsResumed : Prop :=
  (∀ (s : State) (h : HoldId), inSet s.exclusion h = true ↔
    inSet s.suspension.mask h = true ∨ (s.hold h).lockout ≠ none ∨
      ((s.hold h).declared = true ∧ (s.hold h).hatchOpen = false)) ∧
  ∀ s : State, s.takes .ship → s.vesselOpen = true → SuspensionLaw s →
    (s.suspension.saved = [] → exec (.resume .ship) s = .next (s.answered .ship 0x21 .empty)) ∧
    ∀ mask rest, s.suspension.saved = mask :: rest →
      exec (.resume .ship) s =
        .next (({ s with suspension := ⟨mask, rest⟩ }.maskFormed s.exclusion).answered .ship 0x21 .done
          (mask :: u8 rest.length))

/-- A level arrival of 0 to 3,000 cm becomes the river level with its time and ends a stale spell; any other raises LEVEL_FAULT and
changes nothing else; 10 s after the last valid one the level is stale, once, with LEVEL_STALE raised (R10, R11). A valid arrival
makes the wake test for CLEARANCE findings (R56) and is a clearance recompute event for the travel or the tracking in hand (R97,
R100). That the stale expiry brings the clock to its time (notes/assumptions/2.md) and, in the recompute event, that a SPOUT still
MOVING where RAISE completes goes on to its old target (notes/assumptions/36.md) are the model's choice, that each re-computation
writes the travel height its inference (notes/assumptions/23.md). -/
def Obligations.LevelsArriveAndGoStale : Prop :=
  ∀ s : State, s.inReset = false →
    (∀ value : BitVec 32, 0 ≤ value.toInt → value.toInt ≤ 3000 →
      ∃ t u, t = { s with river := ⟨value.toInt.toNat, s.now, false⟩ } ∧ HeightsChanged t u ∧ Kept t u ∧
        exec (.riverLevelArrival value) s = .next u) ∧
    (∀ value : BitVec 32, value.toInt < 0 ∨ 3000 < value.toInt →
      exec (.riverLevelArrival value) s = .next (raise .levelFault s)) ∧
    (s.river.stale = false →
      exec .levelStale s =
        .next (raise .levelStale { s with now := max s.now (s.river.lastValid + 10000), river.stale := true })) ∧
    (s.river.stale = true → exec .levelStale s = .next s)

/-! ### Orders and passes (chapter 2) -/

/-- ADD ORDER with fields in range, a declared hold and an OPEN lot puts the order, READY, in the lowest-numbered FREE slot and at
the tail of its hold's queue, clamps its target, and is a wake event; it is refused with UNKNOWN, STATE and FULL in this order
(R24). -/
def Obligations.OrdersAdded : Prop :=
  ∀ (s : State) (lot : BitVec 16) (b : Byte) (h : HoldId) (target : BitVec 32) (al : Along) (ac : Across) (c n : Bool)
    (retry : Nat), s.takes .station → s.vesselOpen = true → lot ≠ 0 → b.toNat = h.val + 1 → retry ≤ 3 →
    let i := Instr.addOrder .station lot b target (BitVec.ofNat 8 al.place) (BitVec.ofNat 8 ac.place)
      (BitVec.ofNat 8 c.toNat) (BitVec.ofNat 8 n.toNat) (BitVec.ofNat 8 retry)
    (((s.hold h).declared = false ∨ s.lotSlot lot.toNat = none) →
      exec i s = .next (s.answered .station 0x09 .unknown)) ∧
    ∀ l, (s.hold h).declared = true → s.lotSlot lot.toNat = some l →
      ((s.lot l).state = .closing → exec i s = .next (s.answered .station 0x09 .state)) ∧
      ((s.lot l).state = .opened → (∀ o, (s.order o).state ≠ .free) →
        exec i s = .next (s.answered .station 0x09 .full)) ∧
      ∀ o, (s.lot l).state = .opened → (s.order o).state = .free → (∀ k < o, (s.order k).state ≠ .free) →
        exec i s = .next (((s.setOrder o
            ⟨.ready, lot.toNat, some h, min 50000000 target.toNat, 0, 0, 0, 0, some (al, ac), c, n, retry, retry, none,
              none⟩).setQueue h (s.queue h ++ [o])).woken.answered .station 0x09 .done
          (u8 (o.val + 1) ++ u32 (min 50000000 target.toNat)))

/-- WITHDRAW ORDER takes a READY or STALLED order off its queue as WITHDRAWN, raises ORDER_END if it notifies, and is a wake event;
it asks the ACTIVE order's pour to end orderly with WITHDRAWN, by every row of R72: POURING, on the way, PAUSED, and DRAINING, where
WITHDRAWN replaces COMPLETE and TOPPED; the reply gives the order's state after it, ACTIVE or WITHDRAWN. It refuses a finished
order with STATE (R32). That the entry into DRAINING gives the SPOUT no tracking move is the model's inference
(notes/assumptions/30.md). -/
def Obligations.OrdersWithdrawn : Prop :=
  ∀ (s : State) (b : Byte) (o : OrderId), s.takes .station → s.vesselOpen = true → b.toNat = o.val + 1 →
    (∀ h, (s.order o).state = .ready ∨ (s.order o).state = .stalled → (s.order o).hold = some h →
      ∃ t, t = (s.setOrder o { s.order o with state := .withdrawn, lastEnd := some .withdrawn }).setQueue h
          ((s.queue h).filter (· != o)) ∧
        exec (.withdrawOrder .station b) s =
          .next ((if (s.order o).notify then raise .orderEnd { t with lastEnded := some o } else t).woken.answered .station
            0x0A .done [6])) ∧
    ((s.order o).state = .active → s.pourOrder = some o →
      ∃ (u : State) (place : Byte), OrderlyEnds .withdrawn s u ∧ Kept s u ∧
        (((u.order o).state = .active ∧ place = 2) ∨ ((u.order o).state = .withdrawn ∧ place = 6)) ∧
        exec (.withdrawOrder .station b) s = .next (u.answered .station 0x0A .done [place])) ∧
    ((s.order o).state = .done ∨ (s.order o).state = .short ∨ (s.order o).state = .withdrawn →
      exec (.withdrawOrder .station b) s = .next (s.answered .station 0x0A .state)) ∧
    ((s.order o).state = .free → exec (.withdrawOrder .station b) s = .next (s.answered .station 0x0A .unknown))

/-- REARM ORDER makes a STALLED order READY in its place with its retries restored, keeps its last end cause and fault kind, and is
a wake event; an order in any other state is refused with STATE (R33). RELEASE ORDER frees the slot of a finished order that
carries nothing, with the values of R22, and changes nothing else; it is refused with STATE and with IN_TRANSIT in this order
(R34). -/
def Obligations.OrdersRearmedAndReleased : Prop :=
  ∀ (s : State) (b : Byte) (o : OrderId), s.takes .station → s.vesselOpen = true → b.toNat = o.val + 1 →
    ((s.order o).state = .stalled →
      exec (.rearmOrder .station b) s =
        .next ((s.setOrder o { s.order o with state := .ready, retriesLeft := (s.order o).retryLimit }).woken.answered
          .station 0x0B .done)) ∧
    ((s.order o).state ≠ .stalled → (s.order o).state ≠ .free →
      exec (.rearmOrder .station b) s = .next (s.answered .station 0x0B .state)) ∧
    ((s.order o).state = .ready ∨ (s.order o).state = .active ∨ (s.order o).state = .stalled →
      exec (.releaseOrder .station b) s = .next (s.answered .station 0x0C .state)) ∧
    ((s.order o).state = .done ∨ (s.order o).state = .short ∨ (s.order o).state = .withdrawn →
      ((s.order o).inTransit ≠ 0 ∨ (s.order o).granted ≠ 0 →
        exec (.releaseOrder .station b) s = .next (s.answered .station 0x0C .inTransit)) ∧
      ((s.order o).inTransit = 0 → (s.order o).granted = 0 →
        exec (.releaseOrder .station b) s =
          .next ((s.setOrder o ⟨.free, 0, none, 0, 0, 0, 0, 0, none, false, false, 0, 0, none, none⟩).answered .station
            0x0C .done)))

/-- SET PASS replaces the staged chain of one pass, CLEAR PASS empties one or, for 0, all twelve; in STOPPED, HELD and COMPLETE the
staged list takes effect within the request, which is a wake event where it changes a chain, and elsewhere it waits
(R37 to R39). -/
def Obligations.PassesEdited : Prop :=
  ∀ (s : State) (b : Byte) (n : PassId) (i : Instr) (code : Byte) (staged : Vector (List HoldId) 12),
    s.takes .station → s.vesselOpen = true → b.toNat = n.val + 1 →
    ((∃ hs : List HoldId, hs ≠ [] ∧ hs.Nodup ∧ code = 0x04 ∧ staged = s.passes.staged.set n hs ∧
        i = .setPass .station b (hs.map fun h => BitVec.ofNat 8 (h.val + 1))) ∨
      (code = 0x05 ∧ staged = s.passes.staged.set n [] ∧ i = .clearPass .station b) ∨
      (code = 0x05 ∧ staged = Vector.replicate 12 [] ∧ i = .clearPass .station 0)) →
    (s.sched.state = .stopped ∨ s.sched.state = .held ∨ s.sched.state = .complete →
      (staged = s.passes.inEffect →
        exec i s = .next ({ s with passes := ⟨staged, staged, false⟩ }.answered .station code .done [0])) ∧
      (staged ≠ s.passes.inEffect →
        exec i s = .next ({ s with passes := ⟨staged, staged, false⟩ }.woken.answered .station code .done [0]))) ∧
    (s.sched.state = .seeking ∨ s.sched.state = .halted ∨ s.sched.state.isPour = true →
      exec i s = .next ({ s with passes := ⟨s.passes.inEffect, staged, true⟩ }.answered .station code .done [1]))

/-! ### The schedule (chapter 3) -/

/-- START and STEP (R42, R43, R58): from STOPPED the walk resumes at the cursor, from HELD and COMPLETE START begins a new round,
from HALTED with no standing condition START empties the halt causes, clears the axes and resumes; each is refused with STATE
elsewhere, with no vessel open, and under the emergency stop. -/
def Obligations.WalkStarted : Prop :=
  ∀ s : State, s.takes .cab →
    (s.vesselOpen = true → s.inputs.eStop = false →
      (s.sched.state = .stopped →
        exec (.start .cab) s = .next ({ s with sched.stepFlag := false }.resumed.answered .cab 0x12 .done) ∧
        exec (.step .cab) s = .next ({ s with sched.stepFlag := true }.resumed.answered .cab 0x13 .done)) ∧
      (s.sched.state = .held ∨ s.sched.state = .complete →
        exec (.start .cab) s =
          .next ((raise .schedule { s with sched.state := .seeking, sched.stepFlag := false }).roundStarted.answered .cab
            0x12 .done)) ∧
      (s.sched.state = .halted → (s.sched.halts.axis = true → s.inputs.driveFault = ⟨false, false, false⟩) →
        (s.sched.halts.belt = true → s.inputs.beltConfirm = false) →
        ∃ t : State, t.sched = { s.sched with halts := ⟨false, false, false, false⟩, stepFlag := false } ∧
          (∀ a, t.axis a =
            if (s.axis a).state = .fault ∧ s.inputs.driveFault.get a = false then
              { s.axis a with
                state := .idle, target := none, kind := none, commanded := .stop, moveDeadline := none, reason := none
                classDeadline := if (s.axis a).confirmed = .stop then none else some (s.now + 2000) }
            else s.axis a) ∧
          t = { s with sched := t.sched, axes := t.axes } ∧
          exec (.start .cab) s = .next (t.resumed.answered .cab 0x12 .done)) ∧
      (s.sched.state = .halted →
        (s.sched.halts.axis = true ∧ s.inputs.driveFault ≠ ⟨false, false, false⟩) ∨
          (s.sched.halts.belt = true ∧ s.inputs.beltConfirm = true) →
        exec (.start .cab) s = .next (s.answered .cab 0x12 .state)) ∧
      (s.sched.state = .seeking ∨ s.sched.state.isPour = true →
        exec (.start .cab) s = .next (s.answered .cab 0x12 .state)) ∧
      (s.sched.state ≠ .stopped → exec (.step .cab) s = .next (s.answered .cab 0x13 .state))) ∧
    (s.vesselOpen = false ∨ s.inputs.eStop = true →
      exec (.start .cab) s = .next (s.answered .cab 0x12 .state) ∧
        exec (.step .cab) s = .next (s.answered .cab 0x13 .state))

/-- HALT SCHEDULE (R44): any pour in progress ends at once with YIELD (R28, R76), the axes stop, the held-cause table is emptied and
the step flag CLEAR, the scheduler is STOPPED with the cursor and the progress flag where they stand (R54), SCHEDULE raised; in
STOPPED and HALTED it is refused with STATE. -/
def Obligations.ScheduleHalted : Prop :=
  ∀ s : State, s.takes .station →
    (s.sched.state = .seeking ∨ s.sched.state = .held ∨ s.sched.state = .complete →
      exec (.haltSchedule .station) s =
        .next (({ s with axes := s.axes.map (AxisRec.halt s.now) }.rested .stopped s.sched.halts).answered .station 0x0F
          .done)) ∧
    (∀ o, s.pourOrder = some o →
      exec (.haltSchedule .station) s =
        .next (((s.orderYielded o).pourOver.rested .stopped s.sched.halts).answered .station 0x0F .done)) ∧
    (s.sched.state = .stopped ∨ s.sched.state = .halted →
      exec (.haltSchedule .station) s = .next (s.answered .station 0x0F .state))

/-- An examination in SEEKING (R48): no hold or an empty queue moves the cursor on; a STALLED top, or a READY top that fails a test,
is recorded in the held-cause table and the cursor moved on (here to a position still in the round, R45); a READY top that passes
every test is activated (R52, R61, R90, R141): RAISE begins (R92), or a pause reason that stands pauses the pour at once, or an axis in
FAULT ends it with FAULT, kind AXIS, and halts the scheduler (R78). That the pause stops every MOVING axis (notes/assumptions/7.md) is
the model's inference; that a SPOUT still MOVING where RAISE completes at once goes on to its target (notes/assumptions/36.md) is its
choice. -/
def Obligations.PositionsExamined : Prop :=
  ∀ s : State, s.inReset = false → s.sched.state = .seeking →
    (∀ n k, s.nextPosition = some (n, k) →
      ((∀ h, (s.chain s.sched.pass)[s.sched.pos.val]? = some h → s.queue h = []) →
        exec .examination s = .next { s with sched.pass := n, sched.pos := k }) ∧
      ∀ h o rest, (s.chain s.sched.pass)[s.sched.pos.val]? = some h → s.queue h = o :: rest →
        ((s.order o).state = .stalled →
          exec .examination s =
            .next { s with sched.pass := n, sched.pos := k, sched.held := s.sched.held.set h (some .blocked) }) ∧
        (∀ c, (s.order o).state = .ready → s.ineligible h o = some c →
          exec .examination s =
            .next { s with sched.pass := n, sched.pos := k, sched.held := s.sched.held.set h (some c) })) ∧
    (∀ h o rest al ac, (s.chain s.sched.pass)[s.sched.pos.val]? = some h → s.queue h = o :: rest →
      (s.order o).state = .ready → (s.order o).hold = some h → (s.order o).spot = some (al, ac) → s.ineligible h o = none →
      ∃ u, Activated TravelEnds o s u ∧ Kept s u ∧ exec .examination s = .next u)

/-- A round that ends in SEEKING with the progress flag CLEAR rests in COMPLETE where every queue is empty and else in HELD, the
table naming the holds with orders waiting, the last position's finding among them; with the flag SET a new round starts (R48, R53).
The last position has no hold, an empty queue, a STALLED top, or a READY top that fails a test. The held cause of an order is that of
the first of the six tests it fails, in their order, and none where it passes them all: declared and open, not excluded, feasible
and, for a pour order, its lot and every lot in flight passing the hold's grade test and the hold not FULL (R49 to R51). The cursor
is moved on to the next place of the chain, else to the first of the next pass that has one (R45). That a lot with no account fails the
grade test is the model's choice (notes/assumptions/33.md). -/
def Obligations.RoundsEndAndEligibility : Prop :=
  (∀ s : State, s.inReset = false → s.sched.state = .seeking → s.nextPosition = none →
    ∀ found : Vector (Option HeldCause) 8,
    ((∀ h, (s.chain s.sched.pass)[s.sched.pos.val]? = some h → s.queue h = []) ∧ found = s.sched.held) ∨
      (∃ h o rest c, (s.chain s.sched.pass)[s.sched.pos.val]? = some h ∧ s.queue h = o :: rest ∧
        found = s.sched.held.set h (some c) ∧ (((s.order o).state = .stalled ∧ c = .blocked) ∨
          ((s.order o).state = .ready ∧ s.ineligible h o = some c))) →
    (s.sched.progress = true → exec .examination s = .next s.roundStarted) ∧
    (s.sched.progress = false →
      ∃ held : Vector (Option HeldCause) 8,
        (∀ h : HoldId, held[h] =
          if s.queue h = [] then none
          else if ∃ n, h ∈ s.chain n then found[h] else some .unplanned) ∧
        ((∀ h, s.queue h = []) → exec .examination s =
          .next (raise .schedule { s with sched.state := .complete, sched.pass := 0, sched.pos := 0, sched.held := held })) ∧
        ((∃ h, s.queue h ≠ []) → exec .examination s =
          .next (raise .schedule { s with sched.state := .held, sched.pass := 0, sched.pos := 0, sched.held := held })))) ∧
  (∀ (s : State) (h : HoldId) (o : OrderId),
    (s.ineligible h o = none ↔ ∀ c, s.Fits h o c) ∧
      ∀ before c after, [HeldCause.closed, .excluded, .grade, .carryover, .full, .clearance] = before ++ c :: after →
        (s.ineligible h o = some c ↔ ¬s.Fits h o c ∧ ∀ d ∈ before, s.Fits h o d)) ∧
  ∀ (s : State) (n : PassId) (k : Fin 8), (∀ m, (s.chain m).Nodup) →
    (s.nextPosition = some (n, k) ↔
      (n = s.sched.pass ∧ k.val = s.sched.pos.val + 1 ∧ k.val < (s.chain n).length) ∨
        (k = 0 ∧ (s.chain s.sched.pass).length ≤ s.sched.pos.val + 1 ∧ s.sched.pass < n ∧ s.chain n ≠ [] ∧
          ∀ m, s.sched.pass < m → m < n → s.chain m = []))

/-! ### Pours (chapter 4) -/

/-- PAUSE and CONTINUE from the cab act on CAB_PAUSE, HOLD FEED and RELEASE FEED from the ship on SHIP_HOLD (R65, R66): outside
TRAVELLING and POURING an added reason joins the set alone; the first reason pauses a TRAVELLING or POURING pour (R68); a reason
removed leaves the set alone while the pour is not PAUSED or a reason remains (R69); the last reason removed returns the pour to
the state it was paused from, with its run line and its tracking set anew or its travel begun again, or to the travel from RAISE
where MANUAL was seen (R70, R99, R100), and a drain with the belt clear finalises (R75). The reply gives the set. In a travel begun
again, that a SPOUT still MOVING where RAISE completes goes on to its old target is the model's choice (notes/assumptions/36.md), that
the travel height is written its inference (notes/assumptions/23.md). -/
def Obligations.PauseReasonsGoverned : Prop :=
  ∀ (s : State) (r : PauseReason) (p : Port) (add drop : Instr) (ca cd : Byte),
    (r = .cab ∧ p = .cab ∧ add = .pause .cab ∧ drop = .continuePour .cab ∧ ca = 0x14 ∧ cd = 0x15) ∨
      (r = .ship ∧ p = .ship ∧ add = .holdFeed .ship ∧ drop = .releaseFeed .ship ∧ ca = 0x22 ∧ cd = 0x23) →
    s.takes p →
    (s.vesselOpen = false → exec add s = .next (s.answered p ca .state) ∧ exec drop s = .next (s.answered p cd .state)) ∧
    (s.vesselOpen = true →
      (s.sched.state ≠ .travelling ∧ s.sched.state ≠ .pouring ∨ s.pour.reasons ≠ ⟨false, false, false, false⟩ →
        exec add s = .next ({ s with pour.reasons := s.pour.reasons.put r true }.answered p ca .done
          (s.pour.reasons.put r true).byte)) ∧
      (∀ ret, (s.sched.state = .travelling ∧ ret = .travelling) ∨ (s.sched.state = .pouring ∧ ret = .pouring) →
        s.pour.reasons = ⟨false, false, false, false⟩ →
        ∃ u, Kept { s with pour.reasons := s.pour.reasons.put r true } u ∧
          PourPauses ret { s with pour.reasons := s.pour.reasons.put r true } u ∧
          exec add s = .next (u.answered p ca .done (s.pour.reasons.put r true).byte)) ∧
      (s.sched.state ≠ .paused ∨ s.pour.reasons.put r false ≠ ⟨false, false, false, false⟩ →
        exec drop s = .next ({ s with pour.reasons := s.pour.reasons.put r false }.answered p cd .done
          (s.pour.reasons.put r false).byte)) ∧
      (s.sched.state = .paused → s.pour.reasons ≠ ⟨false, false, false, false⟩ →
        s.pour.reasons.put r false = ⟨false, false, false, false⟩ →
        ∃ t u, t = { s with pour.reasons := ⟨false, false, false, false⟩ } ∧ PauseLeft t u ∧ Kept t u ∧
          exec drop s = .next (u.answered p cd .done [0])))

/-- TOP OFF ends a pour orderly with TOPPED by every row of R72 (R74): a POURING pour drains, and one on its way or PAUSED finalises
SHORT at once with the belt clear and else goes on with its end cause recorded; the finalisation of R27 and R54 with the continue rule
of R55, or STOPPED for a stepped pour. It is refused with STATE with no vessel open, in DRAINING, outside a pour and for a visit
order. That the entry into DRAINING gives the SPOUT no tracking move is the model's inference (notes/assumptions/30.md). -/
def Obligations.PoursToppedOff : Prop :=
  ∀ s : State, s.takes .cab →
    (∀ o, s.vesselOpen = true → s.pourOrder = some o → 0 < (s.order o).target → s.sched.state ≠ .draining →
      s.pour.returnState ≠ some .draining →
      ∃ u, OrderlyEnds .topped s u ∧ Kept s u ∧ exec (.topOff .cab) s = .next (u.answered .cab 0x16 .done)) ∧
    (s.vesselOpen = false ∨ s.sched.state = .draining ∨ s.sched.state.isPour = false ∨
        (s.sched.state = .paused ∧ s.pour.returnState = some .draining) ∨
        (∃ o, s.pourOrder = some o ∧ (s.order o).target = 0) →
      exec (.topOff .cab) s = .next (s.answered .cab 0x16 .state))

/-- The running confirm input and the confirm deadline (R64): an assertion makes a STARTING belt RUNNING; a drop of a RUNNING belt,
or the deadline of a STARTING one, ends the pour at once with FAULT, kind BELT, a retry counted (R29, R76), and halts the scheduler
with the cause BELT (R78, R57); any other change is noted alone. That an expiry brings the clock to its deadline is the model's
choice (notes/assumptions/2.md), that a level already noted may be carried again its inference (notes/assumptions/21.md). -/
def Obligations.BeltSupervised : Prop :=
  ∀ s : State, s.inReset = false →
    (s.pour.supervision = .starting →
      exec (.beltConfirmChange true) s =
        .next { s with inputs.beltConfirm := true, pour.supervision := .running, pour.confirmDeadline := none }) ∧
    (∀ b, s.pour.supervision = .off ∨ (s.pour.supervision = .starting ∧ b = false) ∨
        (s.pour.supervision = .running ∧ b = true) →
      exec (.beltConfirmChange b) s = .next { s with inputs.beltConfirm := b }) ∧
    (∀ o, s.pourOrder = some o → s.vesselOpen = true →
      (s.pour.supervision = .running →
        exec (.beltConfirmChange false) s =
          .next (({ s with inputs.beltConfirm := false }.orderFaulted o .belt).pourOver.rested .halted
            (s.sched.halts.add .belt))) ∧
      (∀ t, s.pour.supervision = .starting → s.pour.confirmDeadline = some t →
        exec .confirmDeadlineExpiry s =
          .next (({ s with now := max s.now t }.orderFaulted o .belt).pourOver.rested .halted (s.sched.halts.add .belt)))) ∧
    (s.pour.supervision ≠ .starting → exec .confirmDeadlineExpiry s = .next s)

/-- An assertion of the emergency stop input (R79) stops the axes, sounds the horn, ends a pour in progress at once with YIELD (R28, R76)
and, with a vessel open, halts the scheduler with the cause ESTOP (R57); in HALTED the cause joins the set, with SCHEDULE raised where
it is new (R57, R59); a release is noted alone. That an assertion is an event also where the line is asserted already is the model's
inference (notes/assumptions/21.md). -/
def Obligations.EmergencyStops : Prop :=
  ∀ s : State, s.inReset = false →
    exec .emergencyStopRelease s = .next { s with inputs.eStop := false } ∧
    (∀ o, s.vesselOpen = true → s.pourOrder = some o →
      exec .emergencyStopAssert s =
        .next (({ s with inputs.eStop := true, dust.hornOn := true }.orderYielded o).pourOver.rested .halted
          (s.sched.halts.add .estop))) ∧
    (s.vesselOpen = true → s.sched.state.isPour = false → s.sched.state ≠ .halted →
      exec .emergencyStopAssert s = .next (raise .schedule { s with
        inputs.eStop := true
        dust.hornOn := true
        axes := s.axes.map (AxisRec.halt s.now)
        sched := ⟨.halted, s.sched.pass, s.sched.pos, s.sched.progress, Vector.replicate 8 none, s.sched.halts.add .estop,
          none, false⟩ })) ∧
    (s.vesselOpen = true → s.sched.state = .halted →
      ∃ t, t = { s with
          inputs.eStop := true
          dust.hornOn := true
          axes := s.axes.map (AxisRec.halt s.now)
          sched.halts := s.sched.halts.add .estop } ∧
        exec .emergencyStopAssert s = .next (if s.sched.halts.estop then t else raise .schedule t)) ∧
    (s.vesselOpen = false → s.sched.state.isPour = false →
      exec .emergencyStopAssert s = .next { s with
        inputs.eStop := true, dust.hornOn := true, axes := s.axes.map (AxisRec.halt s.now) })

/-! ### The spout (chapter 5) -/

/-- TAKE MANUAL and RELEASE MANUAL (R101, R102): refused with FEED_ON in POURING and DRAINING; MANUAL joins and leaves the
pause-reason set with the authority; a TRAVELLING pour pauses and its travel is abandoned; a release stops every MOVING axis, and
where it empties the set of a PAUSED pour the pour goes on, its travel begun again from RAISE (R70, R99). The reply bytes AUTO 0 and
MANUAL 1 (notes/assumptions/9.md), and that a SPOUT still MOVING where RAISE completes goes on to its old target
(notes/assumptions/36.md), are the model's choice; that the travel height is written at a restart is its inference
(notes/assumptions/23.md). -/
def Obligations.AuthorityTaken : Prop :=
  ∀ s : State, s.takes .cab →
    (s.sched.state = .pouring ∨ s.sched.state = .draining →
      exec (.takeManual .cab) s = .next (s.answered .cab 0x17 .feedOn)) ∧
    (s.spout.manual = true → s.sched.state ≠ .pouring → s.sched.state ≠ .draining →
      exec (.takeManual .cab) s = .next (s.answered .cab 0x17 .done [1])) ∧
    (s.spout.manual = false → s.sched.state.isPour = false →
      exec (.takeManual .cab) s =
        .next ({ s with spout.manual := true, pour.reasons.manual := true }.answered .cab 0x17 .done [1])) ∧
    (s.spout.manual = false → s.sched.state = .paused →
      exec (.takeManual .cab) s =
        .next ({ s with spout.manual := true, pour.reasons.manual := true, pour.manualSeen := true }.answered .cab 0x17 .done
          [1])) ∧
    (s.spout.manual = false → s.sched.state = .travelling → s.pour.reasons = ⟨false, false, false, false⟩ →
      ∃ u, Kept { s with spout.manual := true, pour.reasons.manual := true } u ∧
        PourPauses .travelling { s with spout.manual := true, pour.reasons.manual := true } u ∧
        exec (.takeManual .cab) s = .next (u.answered .cab 0x17 .done [1])) ∧
    (s.spout.manual = false → exec (.releaseManual .cab) s = .next (s.answered .cab 0x18 .done [0])) ∧
    (s.spout.manual = true →
      s.sched.state ≠ .paused ∨ { s.pour.reasons with manual := false } ≠ (⟨false, false, false, false⟩ : ReasonSet) →
      exec (.releaseManual .cab) s =
        .next ({ s with
          spout.manual := false
          pour.reasons.manual := false
          axes := s.axes.map (AxisRec.halt s.now) }.answered .cab 0x18 .done [0])) ∧
    (s.spout.manual = true → s.sched.state = .paused → s.pour.reasons = ⟨false, false, false, true⟩ →
      ∃ t u, t = { s with
          spout.manual := false
          pour.reasons := ⟨false, false, false, false⟩
          axes := s.axes.map (AxisRec.halt s.now) } ∧
        PauseLeft t u ∧ Kept t u ∧ exec (.releaseManual .cab) s = .next (u.answered .cab 0x18 .done [0]))

/-- A JOG under MANUAL authority gives its axis a GRADED move to the position plus the distance, clamped into the limits and then by
R104 and R105 (R103): a SPOUT raise stands; a SPOUT lowering inside a hatch opening stands, and outside is raised to the travel
height at its place; a GANTRY or REACH jog stands where the spout clears its height, and is else brought into the opening of the
hold the spout is in, or refused where it is in none. The heights it reads: the travel height of a move is the greatest coaming top
among the declared holds whose reach meets its interval, plus the travel margin, and the park height where none does (R113, R114); the
pour height is the coaming top less the pour depth and, under the choke, the choke step, within the SPOUT limits (R115). That with
GANTRY's position absent a hold wholly beyond -20,000 to 20,000 cm does not count is the model's choice (notes/assumptions/37.md). -/
def Obligations.AxesJogged : Prop :=
  (∀ (s : State) (a : Axis) (d : BitVec 32) (x goal : Int), s.takes .cab →
    let c := clampInt (s.settings.lower.get a) (s.settings.upper.get a) (x + d.toInt)
    let place := s.travelHeight s.moveInPlace
    let height := if a = .gantry then s.travelHeight (s.moveFromGantry c) else place
    (s.spout.manual = true → s.inputs.eStop = false → (s.axis a).state ≠ .fault → (s.axis a).position = some x →
      ((a = .spout ∧ (x ≤ c ∨ s.staysInHatch = true ∨ place ≤ c) ∧ goal = c) ∨
        (a = .spout ∧ c < x ∧ s.staysInHatch = false ∧ c < place ∧ place ≤ s.settings.upper.spout ∧ goal = place) ∨
        (a ≠ .spout ∧ s.lowPointAtOrAbove height = true ∧ goal = c) ∨
        (∃ h, a ≠ .spout ∧ s.lowPointAtOrAbove height = false ∧ s.holdUnder = some h ∧
          goal = clampInt (if a = .gantry then s.openingX h else s.openingY h).1
            (if a = .gantry then s.openingX h else s.openingY h).2 c)) →
      s.settings.lower.get a ≤ goal → goal ≤ s.settings.upper.get a →
      exec (.jog .cab (BitVec.ofNat 8 (match a with | .gantry => 0 | .reach => 1 | .spout => 2)) d) s =
        .next ((s.setAxis a
          (if (x - goal).natAbs ≤ s.settings.tolerance then
            { s.axis a with
              target := some goal, kind := some .graded, state := .inpos, commanded := .stop, moveDeadline := none
              classDeadline := if (s.axis a).confirmed = .stop then none else some (s.now + 2000) }
          else
            let k : SpeedClass := if s.settings.fineZone < (x - goal).natAbs then .fast else .fine
            { s.axis a with
              target := some goal, kind := some .graded, state := .moving, commanded := k
              moveDeadline := some (s.now + s.settings.timeout.get a * 1000)
              classDeadline := if (s.axis a).confirmed = k then none else some (s.now + 2000) })).answered .cab 0x19 .done
          (s16 goal))) ∧
    (s.spout.manual = false ∨ s.inputs.eStop = true ∨ (s.axis a).state = .fault ∨ (s.axis a).position = none ∨
        (a = .spout ∧ (s.axis a).position = some x ∧ c < x ∧ s.staysInHatch = false ∧ c < place ∧
          s.settings.upper.spout < place) ∨
        (a ≠ .spout ∧ (s.axis a).position = some x ∧ s.lowPointAtOrAbove height = false ∧ s.holdUnder = none) →
      exec (.jog .cab (BitVec.ofNat 8 (match a with | .gantry => 0 | .reach => 1 | .spout => 2)) d) s =
        .next (s.answered .cab 0x19 .state)) ∧
    exec (.jog .cab 3 d) s = .next (s.answered .cab 0x19 .badField)) ∧
  ∀ (s : State) (goal lo hi : Int), (∀ x, s.axes.gantry.position = some x → lo = min x goal ∧ hi = max x goal) →
    (s.axes.gantry.position = none → lo = -20000 ∧ hi = 20000) →
    let meets (h : HoldId) : Prop := (s.hold h).declared = true ∧
      ∃ z, lo ≤ z ∧ z ≤ hi ∧ (s.span h).1 - s.settings.hatchMargin ≤ z ∧ z ≤ (s.span h).2 + s.settings.hatchMargin
    let top (h : HoldId) : Nat :=
      s.river.level + ((s.hold h).freeboard.getD 0 - s.sinkage) + (s.hold h).geom.coaming
    let height := s.travelHeight (s.moveFromGantry goal)
    ((∀ h, ¬meets h) → height = s.settings.park) ∧
      (∀ h, meets h → (top h : Int) + s.settings.travelMargin ≤ height) ∧
      ((∃ h, meets h) → ∃ h, meets h ∧ height = (top h : Int) + s.settings.travelMargin) ∧
      ∀ h, s.settings.lower.spout ≤ s.settings.upper.spout → s.pourHeight h = max s.settings.lower.spout (min s.settings.upper.spout
        ((top h : Int) - s.settings.pourDepth - (if s.level .head = .warn then (s.settings.chokeStep : Int) else 0)))

/-- A position arrival with no travel in hand (R83, R85): it is the axis's position; a MOVING axis within tolerance of its target is
INPOS, commanded STOP; farther off a GRADED move is graded again and a TRACKING one stays as it is; more than 200 cm outside the
limits it is a RANGE fault, which keeps the move kind by the model's inference (notes/assumptions/32.md). For GANTRY and REACH the
clauses are stated where the run line is deasserted outside a pour; `TravelsAdvance` states the arrivals in a pour (R63). -/
def Obligations.PositionsArrive : Prop :=
  ∀ (s : State) (a : Axis) (v : BitVec 32), s.inReset = false → s.spout.cond = none →
    (a = .spout ∨ (s.sched.state.isPour = false ∧ s.pour.runLine = false ∧ s.pour.supervision = .off ∧
      s.pour.confirmDeadline = none)) →
    let outside := v.toInt < s.settings.lower.get a - 200 ∨ s.settings.upper.get a + 200 < v.toInt
    ((s.axis a).state = .fault ∨ ((s.axis a).state ≠ .moving ∧ ¬outside) →
      exec (.positionArrival a v) s = .next (s.setAxis a { s.axis a with position := some v.toInt })) ∧
    (∀ goal, (s.axis a).state = .moving → (s.axis a).target = some goal → ¬outside →
      ((s.axis a).kind.isSome = true → (v.toInt - goal).natAbs ≤ s.settings.tolerance →
        exec (.positionArrival a v) s = .next (s.setAxis a { s.axis a with
          position := some v.toInt, state := .inpos, commanded := .stop, moveDeadline := none
          classDeadline := if (s.axis a).confirmed = .stop then none else some (s.now + 2000) })) ∧
      (∀ k : SpeedClass, (s.axis a).kind = some .graded → s.settings.tolerance < (v.toInt - goal).natAbs →
        k = (if s.settings.fineZone < (v.toInt - goal).natAbs then .fast else .fine) →
        exec (.positionArrival a v) s = .next (s.setAxis a
          (if k = (s.axis a).commanded then { s.axis a with position := some v.toInt }
          else { s.axis a with
            position := some v.toInt, commanded := k
            classDeadline := if (s.axis a).confirmed = k then none else some (s.now + 2000) }))) ∧
      ((s.axis a).kind = some .tracking → s.settings.tolerance < (v.toInt - goal).natAbs →
        exec (.positionArrival a v) s = .next (s.setAxis a { s.axis a with position := some v.toInt }))) ∧
    ((s.axis a).state ≠ .fault → outside → s.sched.state.isPour = false →
      exec (.positionArrival a v) s = .next (raise .axisFault (s.setAxis a { s.axis a with
        position := some v.toInt, state := .fault, reason := some .range, commanded := .stop, classDeadline := none
        moveDeadline := none })))

/-- What a position arrival that faults nothing leads to beyond its axis (R62, R63, R93 to R96). The SPOUT's carries the travel on:
RAISE to CLEARANCE_WAIT or to TRAVERSE, TRAVERSE back to RAISE where the travel height has risen above the SPOUT (R95), LOWER to the
end of the travel: POURING, DRAINING, or for a visit order its finalisation with the continue rule (R26, R54, R55). GANTRY's and
REACH's set the run line anew in POURING and DRAINING and, both INPOS, complete TRAVERSE and begin LOWER (R94). That each
re-computation writes the travel height (notes/assumptions/23.md) is the model's inference, and that a SPOUT still MOVING where RAISE
completes goes on to its old target (notes/assumptions/36.md) is its choice. -/
def Obligations.TravelsAdvance : Prop :=
  ∀ (s t : State) (a : Axis) (v : BitVec 32), s.inReset = false →
    ((s.axis a).state = .fault ∨
      (s.settings.lower.get a - 200 ≤ v.toInt ∧ v.toInt ≤ s.settings.upper.get a + 200)) →
    t = s.setAxis a ((s.axis a).arrivedAt s.settings s.now v.toInt) →
    (a = .spout → ∃ u, SpoutArrived t u ∧ Kept t u ∧ exec (.positionArrival a v) s = .next u) ∧
    (a ≠ .spout → ∃ (w u : State) (inside : Bool),
      (inside = true ↔
        (s.sched.state = .pouring ∨ s.sched.state = .draining) ∧ ∃ h, s.pourHold = some h ∧ t.overHold h = true) ∧
      w = { t with pour := t.pour.lineSet inside s.inputs.beltConfirm s.now } ∧
      (s.spout.phase = .traverse → s.spout.cond = some .inProgress → TraverseGoes TravelEnds w u) ∧
      (s.spout.phase ≠ .traverse ∨ s.spout.cond ≠ some .inProgress → u = w) ∧ Kept w u ∧
      exec (.positionArrival a v) s = .next u)

/-- A class arrival is the axis's confirmed class (R86): it clears the class deadline where it is the commanded class; else a
deadline that runs goes on and one that does not starts; in FAULT nothing more happens. -/
def Obligations.ClassesArrive : Prop :=
  ∀ (s : State) (a : Axis) (c : SpeedClass), s.inReset = false →
    exec (.classArrival a c) s = .next (s.setAxis a { s.axis a with
      confirmed := c
      classDeadline :=
        if (s.axis a).state = .fault then (s.axis a).classDeadline
        else if c = (s.axis a).commanded then none
        else some ((s.axis a).classDeadline.getD (s.now + 2000)) })

/-- What puts an axis in FAULT (R83, R86 to R88): the class deadline (CLASS), the move deadline of a MOVING axis (DEADLINE), its drive
fault input (DRIVE), a position more than 200 cm outside its limits (RANGE). The axis is commanded STOP with no deadline and its
target kept, AXIS_FAULT is raised; a pour in progress ends at once with FAULT, kind AXIS, a retry counted (R29, R76), and the scheduler
halts with the cause AXIS (R57, R78). An axis in FAULT stays as it is; a release of the input changes no axis. That an expiry brings the
clock to its deadline is the model's choice (notes/assumptions/2.md), that the move kind is kept in FAULT (notes/assumptions/32.md) and
that an assertion is an event also where the line is asserted already (notes/assumptions/21.md) its inference. -/
def Obligations.AxesFault : Prop :=
  ∀ (s : State) (a : Axis) (c : Instr) (why : AxisReason) (t : State), s.inReset = false →
    ((∃ d, (s.axis a).classDeadline = some d ∧ c = .classDeadlineExpiry a ∧ why = .cls ∧ t = { s with now := max s.now d }) ∨
      (∃ d, (s.axis a).state = .moving ∧ (s.axis a).moveDeadline = some d ∧ c = .moveDeadlineExpiry a ∧ why = .deadline ∧
        t = { s with now := max s.now d }) ∨
      (c = .driveFaultAssert a ∧ why = .drive ∧ t = { s with inputs.driveFault := s.inputs.driveFault.set a true }) ∨
      (∃ v : BitVec 32, (s.axis a).state ≠ .fault ∧
        (v.toInt < s.settings.lower.get a - 200 ∨ s.settings.upper.get a + 200 < v.toInt) ∧ c = .positionArrival a v ∧
        why = .range ∧ t = s.setAxis a { s.axis a with position := some v.toInt })) →
    let failed := t.setAxis a { t.axis a with
      state := .fault, reason := some why, commanded := .stop, classDeadline := none, moveDeadline := none }
    ((s.axis a).state = .fault → exec c s = .next t) ∧
    ((s.axis a).state ≠ .fault → s.sched.state.isPour = false → exec c s = .next (raise .axisFault failed)) ∧
    (∀ o, (s.axis a).state ≠ .fault → s.pourOrder = some o → s.vesselOpen = true →
      exec c s = .next (((raise .axisFault failed).orderFaulted o .axis).pourOver.rested .halted (s.sched.halts.add .axis))) ∧
    exec (.driveFaultRelease a) s = .next { s with inputs.driveFault := s.inputs.driveFault.set a false }

/-! ### Weighing (chapter 7) -/

/-- SCALE STATUS writes the readiness carried and answers with the grant still owed (R120). NEXT BATCH (R121 to R124, R71, R73):
WAIT with the first failing condition, no state changed; in a permitted poll a size of at least B_min is granted under the next
batch number, and a smaller one ends the pour orderly, COMPLETE where less than B_min remains and else TOPPED (R72): it drains with
records on the belt, and with the belt clear finalises at once (R75, R54, R55). The reply layouts, one presence byte before a grant,
GRANT 0 and WAIT 1, are the model's choice (notes/assumptions/9.md); that the entry into DRAINING gives the SPOUT no tracking move
(notes/assumptions/30.md) is its inference. -/
def Obligations.ScalePolled : Prop :=
  ∀ s : State, s.takes .scale →
    (∀ (b : Byte) (ready : Bool), b.toNat = (if ready then 0 else 1) →
      exec (.scaleStatus .scale b) s = .next ({ s with weigh.ready := ready }.answered .scale 0x26 .done
        (b :: opt (fun g : Grant => u16 g.batch ++ u8 (g.order.val + 1) ++ u16 g.size) s.weigh.grant))) ∧
    (∀ b : Byte, 1 < b.toNat → exec (.scaleStatus .scale b) s = .next (s.answered .scale 0x26 .badField)) ∧
    (∀ place : Byte,
      ((s.sched.state ≠ .pouring ∧ place = 0) ∨
        (s.sched.state = .pouring ∧ s.pour.supervision ≠ .running ∧ place = 1) ∨
        (s.sched.state = .pouring ∧ s.pour.supervision = .running ∧ s.weigh.grant ≠ none ∧ place = 2) ∨
        (s.sched.state = .pouring ∧ s.pour.supervision = .running ∧ s.weigh.grant = none ∧ 16 ≤ s.belt.records.length ∧
          place = 3) ∨
        (s.sched.state = .pouring ∧ s.pour.supervision = .running ∧ s.weigh.grant = none ∧ s.belt.records.length < 16 ∧
          s.weigh.ready = false ∧ place = 4)) →
      exec (.nextBatch .scale) s = .next (s.answered .scale 0x24 .done
        (1 :: place :: opt (fun g : Grant => u16 g.batch ++ u16 g.size) s.weigh.grant))) ∧
    ∀ (o : OrderId) (h : HoldId) (size : Nat), s.sched.state = .pouring → s.pour.supervision = .running →
      s.weigh.grant = none → s.belt.records.length < 16 → s.weigh.ready = true → s.sched.active = some o →
      (s.order o).hold = some h →
      size = min
          (min (if s.choke then s.settings.bNom / 2 / s.settings.division * s.settings.division else s.settings.bNom)
            ((s.order o).target - (s.order o).delivered - (s.order o).inTransit))
          (min (s.room h) (4200000000 - s.totalLoaded - netWhere (fun _ => true) s.belt.records)) /
        s.settings.division * s.settings.division →
      (s.settings.bMin ≤ size →
        exec (.nextBatch .scale) s = .next ((State.setOrder { s with
            weigh.grant := some ⟨s.weigh.nextBatch, o, (s.order o).lot, h, size, s.choke⟩
            weigh.nextBatch := if s.weigh.nextBatch < 65535 then s.weigh.nextBatch + 1 else 1 }
          o { s.order o with granted := size }).answered .scale 0x24 .done (0 :: (u16 s.weigh.nextBatch ++ u16 size)))) ∧
      (size < s.settings.bMin →
        ∃ u, OrderlyEnds (if (s.order o).target - (s.order o).delivered - (s.order o).inTransit < s.settings.bMin
            then .complete else .topped) s u ∧ Kept s u ∧
          exec (.nextBatch .scale) s = .next (u.answered .scale 0x24 .done [1, 5, 0]))

/-- A BATCH REPORT of the outstanding grant without the FAULT flag (R126 to R128, R130): the net of its counts, 0 kg when the tare
exceeds the gross and at most CAP_KG, is charged to the lot, the order and the belt, with every uncertified reason that applies and
SCALE_ALERT for any. The batch count is below its end, past which the manual states no value. -/
def Obligations.ReportsAccepted : Prop :=
  ∀ (s : State) (g : Grant) (l : LotSlot) (batch : BitVec 16) (gross tare : BitVec 32) (unstable : Bool) (rounded net : Nat)
    (why : Uncertified), s.takes .scale → s.weigh.grant = some g → g.batch = batch.toNat → batch ≠ 0 →
    gross.toNat ≤ 16777215 → tare.toNat ≤ 16777215 → s.lotSlot g.lot = some l → (s.lot l).count < 4294967295 →
    (gross.toNat < tare.toNat → rounded = 0) →
    (tare.toNat ≤ gross.toNat → s.settings.Nearest ((gross.toNat - tare.toNat) * s.settings.calMul) rounded) →
    net = min rounded s.settings.capKg →
    why = ⟨gross.toNat < tare.toNat, s.settings.capCounts < gross.toNat, s.settings.capKg < rounded, unstable, false⟩ →
    ∃ t : State, t = State.setOrder (State.setLot { s with
        weigh := ⟨s.weigh.ready, none, s.weigh.nextBatch,
          some ⟨batch.toNat, gross.toNat, tare.toNat, .accepted g.order g.lot net why⟩⟩
        belt.records := s.belt.records ++
          [⟨batch.toNat, g.lot, g.order, net, decide (why ≠ ⟨false, false, false, false, false⟩), s.belt.counter⟩] } l
          { s.lot l with
            weighed := (s.lot l).weighed + net
            uncertified := if why = ⟨false, false, false, false, false⟩ then (s.lot l).uncertified
              else (s.lot l).uncertified + net
            count := (s.lot l).count + 1
            first := if (s.lot l).count = 0 then some batch.toNat else (s.lot l).first
            last := some batch.toNat }) g.order
          { s.order g.order with granted := 0, inTransit := (s.order g.order).inTransit + net } ∧
      exec (.batchReport .scale batch gross tare (BitVec.ofNat 8 unstable.toNat)) s =
        .next ((if why = ⟨false, false, false, false, false⟩ then t else raise .scaleAlert t).answered .scale 0x25 .done
          (u16 net ++ bits [why.negative, why.overCounts, why.overKg, why.unstable, why.scaleFault]))

/-- A BATCH REPORT of the outstanding grant with the FAULT flag (R129): charged at the granted size, uncertified with SCALE_FAULT,
the scale NOT_READY; where the grant's order is the active one its pour ends at once with FAULT, kind SCALE (R78, R76), a retry counted
(R29, R30), and the scheduler walks on (R54); else nothing more happens. -/
def Obligations.FaultReportsCharged : Prop :=
  ∀ (s : State) (g : Grant) (l : LotSlot) (batch : BitVec 16) (gross tare : BitVec 32) (unstable : Bool) (t : State),
    s.takes .scale → s.weigh.grant = some g → g.batch = batch.toNat → batch ≠ 0 → gross.toNat ≤ 16777215 →
    tare.toNat ≤ 16777215 → s.lotSlot g.lot = some l → (s.lot l).count < 4294967295 →
    t = State.setOrder (State.setLot { s with
      weigh := ⟨false, none, s.weigh.nextBatch,
        some ⟨batch.toNat, gross.toNat, tare.toNat, .accepted g.order g.lot g.size ⟨false, false, false, false, true⟩⟩⟩
      belt.records := s.belt.records ++ [⟨batch.toNat, g.lot, g.order, g.size, true, s.belt.counter⟩] } l
        { s.lot l with
          weighed := (s.lot l).weighed + g.size
          uncertified := (s.lot l).uncertified + g.size
          count := (s.lot l).count + 1
          first := if (s.lot l).count = 0 then some batch.toNat else (s.lot l).first
          last := some batch.toNat }) g.order
        { s.order g.order with granted := 0, inTransit := (s.order g.order).inTransit + g.size } →
    let c := Instr.batchReport .scale batch gross tare (BitVec.ofNat 8 (2 + unstable.toNat))
    (s.pourOrder ≠ some g.order →
      exec c s = .next ((raise .scaleAlert t).answered .scale 0x25 .done (u16 g.size ++ [0x10]))) ∧
    (s.pourOrder = some g.order →
      exec c s =
        .next ((((raise .scaleAlert t).orderFaulted g.order .scale).pourOver.walkedOn).answered .scale 0x25 .done
          (u16 g.size ++ [0x10])))

/-- A BATCH REPORT refused (R126): BAD_FIELD changes nothing; NO_GRANT and MISMATCH charge nothing, write the last report, raise
SCALE_ALERT and the halt cause SCALE_PROTOCOL, which with a vessel open halts the scheduler and ends a pour in progress with YIELD
(R57, R28, R76). Counts above 16,777,215 refused with BAD_FIELD are read from R179 (notes/assumptions/20.md). -/
def Obligations.ReportsRefused : Prop :=
  ∀ (s : State) (batch : BitVec 16) (gross tare : BitVec 32) (flags : Byte), s.takes .scale →
    (batch = 0 ∨ 16777215 < gross.toNat ∨ 16777215 < tare.toNat ∨ 4 ≤ flags.toNat →
      exec (.batchReport .scale batch gross tare flags) s = .next (s.answered .scale 0x25 .badField)) ∧
    ∀ (what : ReportOutcome) (r : Result) (t : State), batch ≠ 0 → gross.toNat ≤ 16777215 → tare.toNat ≤ 16777215 →
      flags.toNat < 4 →
      (s.weigh.grant = none ∧ what = .noGrant ∧ r = .noGrant) ∨
        (∃ g, s.weigh.grant = some g ∧ g.batch ≠ batch.toNat ∧ what = .mismatch ∧ r = .mismatch) →
      t = raise .scaleAlert { s with weigh.last := some ⟨batch.toNat, gross.toNat, tare.toNat, what⟩ } →
      (s.vesselOpen = false → s.sched.state.isPour = false →
        exec (.batchReport .scale batch gross tare flags) s = .next (t.answered .scale 0x25 r)) ∧
      (s.vesselOpen = true → s.sched.state = .halted → s.sched.halts.scaleProtocol = true →
        exec (.batchReport .scale batch gross tare flags) s = .next (t.answered .scale 0x25 r)) ∧
      (s.vesselOpen = true → s.sched.state = .halted → s.sched.halts.scaleProtocol = false →
        exec (.batchReport .scale batch gross tare flags) s =
          .next ((raise .schedule { t with sched.halts := t.sched.halts.add .scaleProtocol }).answered .scale 0x25 r)) ∧
      (s.vesselOpen = true → s.sched.state.isPour = false → s.sched.state ≠ .halted →
        exec (.batchReport .scale batch gross tare flags) s =
          .next ((raise .schedule { t with sched := ⟨.halted, s.sched.pass, s.sched.pos, s.sched.progress,
            Vector.replicate 8 none, s.sched.halts.add .scaleProtocol, none, false⟩ }).answered .scale 0x25 r)) ∧
      (∀ o, s.vesselOpen = true → s.pourOrder = some o →
        exec (.batchReport .scale batch gross tare flags) s =
          .next (((t.orderYielded o).pourOver.rested .halted (s.sched.halts.add .scaleProtocol)).answered .scale 0x25 r))

/-! ### The belt (chapter 8) -/

/-- A belt pulse (R137 to R143): the counter grows by the pulse travel, and every record at the head that has travelled the belt length
is delivered, one after another. Under an asserted run line the material falls into the active hold, else into the lowest hold
whose opening the spout is in, or, outside every opening, is charged to the last pour hold with SPILL; in any pour state it is
credited to the active order. Each delivery is a clearance recompute event, takes the finalisation test and makes the drain test of its
lot, with the bill where one is due: the delivery that clears the belt of a draining pour finalises it, with the continue rule (R75,
R54, R55). Stated where the lots have their accounts and there is a hold to fall into, which no run lacks (notes/assumptions/13.md).
That a SPOUT still MOVING where a recompute completes RAISE goes on to its old target is the model's choice (notes/assumptions/36.md);
that each re-computation writes the travel height (notes/assumptions/23.md) is its inference. -/
def Obligations.BeltPulsed : Prop :=
  ∀ (s t : State), s.inReset = false → t = { s with belt := s.belt.pulsed s.settings } →
    (t.belt.notDue s.settings s.belt.records → exec .beltPulse s = .next t) ∧
    ∀ due rest, s.belt.records = due ++ rest →
      (∀ r ∈ due, s.settings.beltLength ≤ (t.belt.counter - r.stamp).toNat ∧ s.lotSlot r.lot ≠ none) →
      t.belt.notDue s.settings rest → s.belt.lastHold ≠ none → (s.pour.runLine = true → s.pourHold ≠ none) →
      ∃ u, Delivered due t u ∧ exec .beltPulse s = .next u

/-! ### Dust (chapter 9) -/

/-- A sample arrival or a stale expiry of a channel (R150 to R153, R157 to R159): the channel's record by its bands, its staleness as
a FAULT, no other channel changed; the beacon and the DUST_PLANT pause reason formed anew, the horn sounded on an entry into STOP,
DUST raised on a change of state. HEAD that enters or leaves WARN retakes LOWER and tracking (R156, R97, R100); DUST_PLANT that
begins or ends pauses a pour or lets it go on (R67, R68, R70); else the record, the reason and the outputs alone change. HEAD's
entry into STOP is `LockoutsPlacedAndExpired`. A stopped timer has no expiry. That an expiry brings the clock to its time is the model's
choice (notes/assumptions/2.md), as is a SPOUT still MOVING where RAISE completes (notes/assumptions/36.md); that DUST_PLANT is compared
with the reason that stands (notes/assumptions/31.md), and that a restart writes the travel height (notes/assumptions/23.md), is its
inference. -/
def Obligations.SamplesClassified : Prop :=
  ∀ (s t : State) (c : Channel) (i : Instr), s.inReset = false →
    ((∃ v : BitVec 16, i = .dustSampleArrival c v ∧
        t = s.setChannel c ((s.channel c).after (s.settings.channels.get c) s.now v.toNat)) ∨
      (∃ d, (s.channel c).staleAt = some d ∧ i = .dustStaleExpiry c ∧
        t = { s with now := max s.now d }.setChannel c
          { s.channel c with state := .fault, up := 0, down := 0, staleAt := none, reason := some .stale })) →
    (∃ u, exec i s = .next u ∧ u.now = t.now ∧ u.dust.channels = t.dust.channels ∧
      (u.dust.beacon = true ↔ ∃ k, t.level k ≠ .normal) ∧
      u.dust.hornOn = (s.dust.hornOn || (decide (s.level c ≠ .stop) && decide (t.level c = .stop))) ∧
      (u.pour.reasons.dust = true ↔ ∃ k, k ≠ .head ∧ t.level k = .stop) ∧ u.pour.reasons.cab = s.pour.reasons.cab ∧
      u.pour.reasons.ship = s.pour.reasons.ship ∧ u.pour.reasons.manual = s.pour.reasons.manual ∧
      ((t.channel c).state ≠ (s.channel c).state → u.flagged .dust) ∧
      (c ≠ .head → t.level c = .stop → s.pour.reasons = ⟨false, false, false, false⟩ → s.sched.state = .pouring →
        u.sched.state = .paused ∧ u.pour.returnState = some .pouring ∧ u.pour.runLine = false) ∧
      u.belt = { s.belt with lastHold := u.belt.lastHold } ∧ u.weigh = s.weigh ∧ u.lots = s.lots ∧ u.bank = s.bank ∧
      u.settings = s.settings ∧ u.suspension = s.suspension ∧ u.inputs = s.inputs ∧ u.pending = s.pending) ∧
    (c ≠ .head ∨ s.level .head = .stop ∨ t.level .head ≠ .stop →
      ∃ (v w : State) (plant beacon : Bool), (plant = true ↔ ∃ k, k ≠ .head ∧ t.level k = .stop) ∧
        (beacon = true ↔ ∃ k, t.level k ≠ .normal) ∧
        (c ≠ .head ∨ (s.level .head = .warn ↔ t.level .head = .warn) → v = t) ∧
        (c = .head → ¬(s.level .head = .warn ↔ t.level .head = .warn) → ChokeChanged t v ∧ Kept t v) ∧
        (plant = s.pour.reasons.dust → w = v) ∧
        (plant = true → s.pour.reasons.dust = false → ReasonAdded .dust v w) ∧
        (plant = false → s.pour.reasons.dust = true → ReasonRemoved .dust v w) ∧
        ∃ u, u = { w with
            dust.beacon := beacon
            dust.hornOn := s.dust.hornOn || (decide (s.level c ≠ .stop) && decide (t.level c = .stop)) } ∧
          exec i s = .next (if (t.channel c).state = (s.channel c).state then u else raise .dust u)) ∧
    ((s.channel c).staleAt = none → exec (.dustStaleExpiry c) s = .next s)

/-- The lockout of HEAD (R154, R155): an entry of HEAD into STOP, by a sample or by a stale expiry of a critical channel, locks out the
hold of the pour in progress for the lockout time and ends that pour with YIELD (R28, R76), after which the scheduler walks on (R54);
with no pour it restarts the lockouts of the holds the spout is over. The beacon goes on, the horn sounds, DUST is raised (R153). A
lockout's expiry makes it absent and forms the exclusion set anew. SILENCE HORN silences the horn (R159). That an expiry brings the
clock to its time (notes/assumptions/2.md) and the reply byte SILENT 1 (notes/assumptions/9.md) are the model's choice; that the wake of
the changed set stands before the end of the pour (notes/assumptions/8.md), and that DUST_PLANT is compared with the reason that stands
(notes/assumptions/31.md), its inference. -/
def Obligations.LockoutsPlacedAndExpired : Prop :=
  ∀ s : State, s.inReset = false →
    (∀ (i : Instr) (t : State), ((∃ v : BitVec 16, i = .dustSampleArrival .head v ∧
          t = { s with dust.channels.head := (s.channel .head).after (s.settings.channels.get .head) s.now v.toNat }) ∨
        (∃ d, (s.channel .head).staleAt = some d ∧ i = .dustStaleExpiry .head ∧
          t = { s with
            now := max s.now d
            dust.channels.head := { s.channel .head with
              state := .fault, up := 0, down := 0, staleAt := none, reason := some .stale } })) →
      s.level .head ≠ .stop → t.level .head = .stop →
      ∃ plant : Bool, (plant = true ↔ ∃ k, k ≠ .head ∧ t.level k = .stop) ∧
        (∀ o h, s.pourOrder = some o → s.pourHold = some h → inSet s.exclusion h = false →
          ∃ w, w = ((raise .maskChanged (t.setHold h
              { s.hold h with lockout := some (t.now + s.settings.lockoutTime * 1000) })).orderYielded o).pourOver.walkedOn ∧
            exec i s =
              .next (raise .dust { w with pour.reasons.dust := plant, dust.beacon := true, dust.hornOn := true })) ∧
        (s.sched.state.isPour = false →
          exec i s = .next (raise .dust { t with
            holds := tabulate fun k => { s.hold k with
              lockout := if s.overHold k = true ∧ (s.hold k).lockout ≠ none then some (t.now + s.settings.lockoutTime * 1000)
                else (s.hold k).lockout }
            pour.reasons.dust := plant
            dust.beacon := true
            dust.hornOn := true }))) ∧
    (∀ h d, (s.hold h).lockout = some d →
      exec (.lockoutExpiry h) s =
        .next (({ s with now := max s.now d }.setHold h { s.hold h with lockout := none }).maskFormed s.exclusion)) ∧
    (∀ h, (s.hold h).lockout = none → exec (.lockoutExpiry h) s = .next s) ∧
    (s.takes .cab →
      exec (.silenceHorn .cab) s = .next ({ s with dust.hornOn := false }.answered .cab 0x1A .done [1]))

/-! ### Lots and bills (chapter 10) -/

/-- OPEN LOT (R163) opens an account in the lowest-numbered FREE slot, refused with DUPLICATE and FULL in this order; CLOSE LOT (R165)
is refused with UNKNOWN, STATE and ORDERS in this order and else makes the lot CLOSING at the tail of the closing queue: undrained
while material of it is in flight, drained and, with room in the bill store, billed at once where none is (R167, R168). -/
def Obligations.LotsOpenedAndClosed : Prop :=
  ∀ (s : State) (lot : BitVec 16), s.takes .station → s.vesselOpen = true → lot ≠ 0 →
    (∀ (shipper : BitVec 16) (grade : Byte) (declared : BitVec 32),
      let c := Instr.openLot .station lot shipper grade declared
      (s.lotSlot lot.toNat ≠ none → exec c s = .next (s.answered .station 0x07 .duplicate)) ∧
      (s.lotSlot lot.toNat = none → (∀ l, (s.lot l).state ≠ .free) → exec c s = .next (s.answered .station 0x07 .full)) ∧
      ∀ l, s.lotSlot lot.toNat = none → (s.lot l).state = .free → (∀ k < l, (s.lot k).state ≠ .free) →
        exec c s = .next ((s.setLot l ⟨.opened, lot.toNat, shipper.toNat, grade,
            if declared = 0 then none else some (min 4000000000 declared.toNat), 0, 0, 0, none, none, [], false⟩).answered
          .station 0x07 .done (if declared = 0 then [0] else 1 :: u32 (min 4000000000 declared.toNat)))) ∧
    (s.lotSlot lot.toNat = none → exec (.closeLot .station lot) s = .next (s.answered .station 0x08 .unknown)) ∧
    ∀ l, s.lotSlot lot.toNat = some l →
      ((s.lot l).state = .closing → exec (.closeLot .station lot) s = .next (s.answered .station 0x08 .state)) ∧
      ((s.lot l).state = .opened →
        (∃ o, (s.order o).lot = lot.toNat ∧
          ((s.order o).state = .ready ∨ (s.order o).state = .active ∨ (s.order o).state = .stalled)) →
        exec (.closeLot .station lot) s = .next (s.answered .station 0x08 .orders)) ∧
      ∀ t, (s.lot l).state = .opened → (s.lot l).drained = false → (∀ o, (s.order o).lot = lot.toNat →
          (s.order o).state ≠ .ready ∧ (s.order o).state ≠ .active ∧ (s.order o).state ≠ .stalled) →
        (∀ k, (s.lot k).state ≠ .free → (s.lot k).number = lot.toNat → k = l) →
        t = { s.setLot l { s.lot l with state := .closing } with bank.closing := s.bank.closing ++ [lot.toNat] } →
        ((∃ r ∈ s.belt.records, r.lot = lot.toNat) ∨ (∃ g, s.weigh.grant = some g ∧ g.lot = lot.toNat) →
          exec (.closeLot .station lot) s = .next (t.answered .station 0x08 .done [0, 0])) ∧
        ((∀ r ∈ s.belt.records, r.lot ≠ lot.toNat) → (∀ g, s.weigh.grant = some g → g.lot ≠ lot.toNat) →
          (12 ≤ s.bank.bills.length ∨ s.bank.exhausted = true →
            exec (.closeLot .station lot) s =
              .next ((t.setLot l { t.lot l with drained := true }).answered .station 0x08 .done [1, 0])) ∧
          (s.bank.bills.length < 12 → s.bank.exhausted = false →
            exec (.closeLot .station lot) s = .next ((t.billed l).answered .station 0x08 .done [1, 1])))

/-- READ BILL answers with the oldest bill, EMPTY with none; RELEASE BILL removes the oldest bill, refused with BAD_FIELD, EMPTY and
UNKNOWN in this order, and where the store had been full the first drained lot of the closing queue is billed within it
(R168, R170). The bytes of a bill and the presence byte of the bill issued are the model's choice (notes/assumptions/9.md). -/
def Obligations.BillsReadAndReleased : Prop :=
  ∀ s : State, s.takes .station →
    exec (.releaseBill .station 0) s = .next (s.answered .station 0x0E .badField) ∧
    (s.bank.bills = [] → exec (.readBill .station) s = .next (s.answered .station 0x0D .empty) ∧
      ∀ n, n ≠ 0 → exec (.releaseBill .station n) s = .next (s.answered .station 0x0E .empty)) ∧
    ∀ b rest, s.bank.bills = b :: rest →
      exec (.readBill .station) s = .next (s.answered .station 0x0D .done (b.bytes ++ u8 (rest.length + 1))) ∧
      ∀ n : BitVec 32, n ≠ 0 →
        (n.toNat ≠ b.number → exec (.releaseBill .station n) s = .next (s.answered .station 0x0E .unknown)) ∧
        (n.toNat = b.number →
          rest.length < 11 ∨ s.bank.exhausted = true ∨
            (∀ l, (s.lot l).state = .closing → (s.lot l).drained = false) →
          exec (.releaseBill .station n) s =
            .next ({ s with bank.bills := rest }.answered .station 0x0E .done (u8 rest.length ++ [0]))) ∧
        (∀ before lot after l, n.toNat = b.number → rest.length = 11 → s.bank.exhausted = false →
          s.bank.closing = before ++ lot :: after → s.lotSlot lot = some l → (s.lot l).state = .closing →
          (s.lot l).drained = true → (∀ m ∈ before, ∀ k, s.lotSlot m = some k → (s.lot k).drained = false) →
          exec (.releaseBill .station n) s =
            .next (({ s with bank.bills := rest }.billed l).answered .station 0x0E .done
              (12 :: 1 :: u32 s.bank.nextBill)))

/-! ### Settings and reads (chapters 9 and 11) -/

/-- WRITE SETTING (R183): a setting that may not be written while a vessel is open is refused with STATE, a value outside its range
with BAD_FIELD; a taken write changes the value in use of that setting alone and begins a copy, or a second one after the copy in
progress; a write completion leaves the copied values in the image, VALID unless a second copy begins. READ SETTING answers with the
value in use. A new port rate waits for the replies of its port, the one to a write of the station port's own rate among them. A
critical flag changes no channel's record; the beacon, the horn and the DUST_PLANT reason follow the levels it makes (R149). That the
image takes the values of the moment the copy began is the model's inference (notes/assumptions/16.md); that a number which names no
setting is carried without a channel or port byte is its choice (notes/assumptions/14.md). -/
def Obligations.SettingsWritten : Prop :=
  ∀ s : State,
    (∀ (number : Byte) (sub : Option Byte) (name : SettingName) (v : BitVec 32), s.takes .station →
      settingOf number sub = some name →
      exec (.readSetting .station number sub) s = .next (s.answered .station 0x11 .done (s32 (s.settings.value name))) ∧
      (s.vesselOpen = true → name.anyTime = false →
        exec (.writeSetting .station number sub v) s = .next (s.answered .station 0x10 .state)) ∧
      (s.vesselOpen = false ∨ name.anyTime = true →
        (s.settings.allows name v.toInt = false →
          exec (.writeSetting .station number sub v) s = .next (s.answered .station 0x10 .badField)) ∧
        (s.settings.allows name v.toInt = true →
          ∃ u : State, u.settings.value name = v.toInt ∧ (∀ m, m ≠ name → u.settings.value m = s.settings.value m) ∧
            u.store =
              (match s.store.cond with
              | .idle => ⟨s.store.image, false, .writing, some u.settings⟩
              | .writing => { s.store with cond := .writingAgain }
              | .writingAgain => s.store) ∧
            ((∀ c : Channel, name ≠ .critical c) → (∀ q : Port, name ≠ .rate q) →
              u = { s with settings := u.settings, store := u.store }) ∧
            (∀ c : Channel, name = .critical c → u.dust.channels = s.dust.channels ∧
              (u.dust.beacon = true ↔ ∃ k, u.level k ≠ .normal) ∧
              u.dust.hornOn = (s.dust.hornOn || (decide (s.level c ≠ .stop) && decide (u.level c = .stop))) ∧
              (u.pour.reasons.dust = true ↔ ∃ k, k ≠ .head ∧ u.level k = .stop)) ∧
            (∀ q : Port, name = .rate q → s.settings.value name ≠ v.toInt →
              u = { s with settings := u.settings, store := u.store }.setPort q
                (if q = Port.station ∨ (s.port q).waiting ≠ [] then
                  { s.port q with rateChanges := (s.port q).rateChanges ++
                    [(v.toNat, (s.port q).waiting.length + if q = Port.station then 1 else 0)] }
                else { s.port q with rate := v.toNat, rx := .idle })) ∧
            exec (.writeSetting .station number sub v) s = .next (u.answered .station 0x10 .done (s32 v.toInt))))) ∧
    (∀ (number : Byte) (v : BitVec 32), s.takes .station → number = 0 ∨ 34 < number.toNat →
      exec (.writeSetting .station number none v) s = .next (s.answered .station 0x10 .badField) ∧
        exec (.readSetting .station number none) s = .next (s.answered .station 0x11 .badField)) ∧
    (s.inReset = false →
      (s.store.cond = .idle → exec .writeCompletion s = .next s) ∧
      (∀ v, s.store.cond = .writing → s.store.copying = some v →
        exec .writeCompletion s = .next { s with store := ⟨v, true, .idle, none⟩ }) ∧
      (∀ v, s.store.cond = .writingAgain → s.store.copying = some v →
        exec .writeCompletion s = .next { s with store := ⟨v, false, .writing, some s.settings⟩ }))

/-- Every read answers DONE with the values as they stand and changes nothing else (R9, R35, R40, R171, R182); an identifier out of
range is refused with BAD_FIELD. READ HOLD gives committed_kg, room and FULL as R13 computes them; READ ORDER the remaining tonnage and
the place in the queue, and every field but the state absent for a FREE slot; READ LOT the net on the belt, the grant and the
closing place; CLEARANCE L, the sinkage, the choke and the figures of the active hold (R109 to R111, R118); WEIGHING the choke and
B_nom' (R134). The layouts, and the items of the sections that stand as the model's report functions (notes/assumptions/9.md), are the
model's choice, and a time of 2^32 ms or more is a free value (notes/assumptions/11.md). That committed_kg, room and FULL of a hold not
declared follow the formulas of R13 (notes/assumptions/28.md), and that GENERAL gives the rates the ports run at
(notes/assumptions/34.md), is the model's inference. -/
def Obligations.ReadsAnswered : Prop :=
  ∀ (s : State) (p : Port), s.takes p →
    (∀ (b : Byte) (h : HoldId), b.toNat = h.val + 1 →
      (∀ kg room : Nat,
        kg = (s.hold h).loaded + netWhere (fun t => decide ((s.order t.order).hold = some h)) s.belt.records +
          ((s.weigh.grant.filter fun g => decide ((s.order g.order).hold = some h)).map Grant.size).getD 0 →
        room = (s.hold h).limit - kg →
        exec (.readHold p b) s = .next (s.answered p 0x29 .done
          (yes (s.hold h).declared ++ (s.hold h).geom.bytes ++ yes (s.hold h).staged.isSome ++ yes (!(s.hold h).hatchOpen) ++
            u32 (s.hold h).limit ++ u32 (s.hold h).loaded ++ u32 (s.hold h).billed ++ u32 kg ++ u32 room ++
            yes (decide (room < s.settings.bMin)) ++ opt u16 (s.hold h).freeboard ++
            opt (remaining s.now) (s.hold h).lockout ++ yes (inSet s.exclusion h) ++
            bits [inSet s.suspension.mask h, (s.hold h).lockout.isSome, (s.hold h).declared && !(s.hold h).hatchOpen]))) ∧
        exec (.readStaged p b) s =
          .next (s.answered p 0x2C .done
            (yes (s.hold h).staged.isSome ++ opt HoldGeom.bytes (s.hold h).staged))) ∧
    exec (.readStaged p 0) s =
      .next (s.answered p 0x2C .done
        (yes s.ship.staged.isSome ++ opt (fun x => s16 x.1 ++ u8 x.2.place) s.ship.staged)) ∧
    (∀ b : Byte, b = 0 ∨ 8 < b.toNat → exec (.readHold p b) s = .next (s.answered p 0x29 .badField)) ∧
    (∀ b : Byte, 8 < b.toNat → exec (.readStaged p b) s = .next (s.answered p 0x2C .badField)) ∧
    (∀ (b : Byte) (o : OrderId), b.toNat = o.val + 1 →
      (s.order o = Order.free →
        exec (.readOrder p b) s =
          .next (s.answered p 0x2A .done (0 :: (u8 OrderState.free.place ++ List.replicate 16 0)))) ∧
      ∀ (r : Order) (place : Option Nat), r = s.order o → r.state ≠ .free →
        (place = none ∧ ∀ h, r.hold = some h → o ∉ s.queue h) ∨
          (∃ h before after, r.hold = some h ∧ s.queue h = before ++ o :: after ∧ o ∉ before ∧
            place = some (before.length + 1)) →
        exec (.readOrder p b) s = .next (s.answered p 0x2A .done
          (1 :: orderByte o ++ u8 r.state.place ++ 1 :: u16 r.lot ++ opt holdByte r.hold ++ 1 :: u32 r.target ++
            1 :: u32 r.delivered ++ 1 :: u32 r.inTransit ++ 1 :: u16 r.granted ++ 1 :: u32 r.carriedIn ++
            opt (fun x => u8 x.1.place ++ u8 x.2.place) r.spot ++ 1 :: yes r.cont ++ 1 :: yes r.notify ++
            1 :: u8 r.retryLimit ++ 1 :: u8 r.retriesLeft ++ opt (fun c => u8 c.place) r.lastEnd ++
            opt (fun k => u8 k.place) r.lastFault ++ 1 :: u32 (r.target - r.delivered - r.inTransit) ++ opt u8 place))) ∧
    (∀ b : Byte, b = 0 ∨ 64 < b.toNat → exec (.readOrder p b) s = .next (s.answered p 0x2A .badField)) ∧
    (∀ (b sel : Byte) (n : PassId), p = .station → b.toNat = n.val + 1 →
      (sel = 0 → exec (.readPass p b sel) s = .next (s.answered p 0x06 .done
        (yes s.passes.pendingEdit ++ list holdByte s.passes.inEffect[n]))) ∧
      (sel = 1 → exec (.readPass p b sel) s = .next (s.answered p 0x06 .done
        (yes s.passes.pendingEdit ++ list holdByte s.passes.staged[n])))) ∧
    (∀ b sel : Byte, p = .station → b = 0 ∨ 12 < b.toNat ∨ 1 < sel.toNat →
      exec (.readPass p b sel) s = .next (s.answered p 0x06 .badField)) ∧
    exec (.readLot p 0) s = .next (s.answered p 0x2B .badField) ∧
    (∀ (lot : BitVec 16) (l : LotSlot) (r : Lot) (grant place : Option Nat), lot ≠ 0 → s.lotSlot lot.toNat = some l →
      r = s.lot l → grant = (s.weigh.grant.filter fun g => decide (g.lot = r.number)).map Grant.size →
      (place = none ∧ r.number ∉ s.bank.closing) ∨
        (∃ before after, s.bank.closing = before ++ r.number :: after ∧ r.number ∉ before ∧
          place = some (before.length + 1)) →
      exec (.readLot p lot) s = .next (s.answered p 0x2B .done
        (u8 r.state.place ++ u16 r.number ++ u16 r.shipper ++ [r.grade] ++ opt u32 r.declared ++ u32 r.weighed ++
          u32 r.uncertified ++ u32 r.count ++ opt u16 r.first ++ opt u16 r.last ++ allocBytes r.allocs ++ yes r.drained ++
          u32 (netWhere (fun t => decide (t.lot = r.number)) s.belt.records) ++ yes grant.isSome ++ opt u16 grant ++
          opt u8 place))) ∧
    (∀ lot : BitVec 16, lot ≠ 0 → s.lotSlot lot.toNat = none →
      exec (.readLot p lot) s = .next (s.answered p 0x2B .unknown)) ∧
    (∀ (sel : Byte) (items : List Byte),
      (sel = 0 ∧ items = statusGeneral s) ∨ (sel = 1 ∧ items = statusSchedule s) ∨ (sel = 2 ∧ items = statusPour s) ∨
        (sel = 3 ∧ items = statusSpout s) ∨ (sel = 4 ∧ items = statusClearance s) ∨ (sel = 5 ∧ items = statusWeighing s) ∨
        (sel = 6 ∧ items = statusBelt s) ∨ (sel = 7 ∧ items = statusDust s) ∨ (sel = 8 ∧ items = statusLots s) →
      exec (.readStatus p sel) s = .next (s.answered p 0x28 .done items)) ∧
    (∀ total sink : Nat, total = ((List.finRange 8).map fun h => if (s.hold h).declared then (s.hold h).loaded else 0).sum →
      sink = (match s.ship.tpc with | none => 0 | some n => (total - s.ship.loadedAtReport) / n) →
      statusClearance s = u16 s.river.level ++ elapsed s.now s.river.lastValid ++ yes s.river.stale ++ opt u32 s.ship.tpc ++
        u32 s.ship.loadedAtReport ++ u32 total ++ u32 sink ++ yes (decide (s.level .head = .warn)) ++
        opt (fun h => u16 ((s.hold h).freeboard.getD 0 - sink) ++ u16 (s.river.level + ((s.hold h).freeboard.getD 0 - sink)) ++
          u16 (s.river.level + ((s.hold h).freeboard.getD 0 - sink) + (s.hold h).geom.coaming) ++ s16 (s.pourHeight h))
          s.pourHold ++
        opt s16 s.spout.height ++ opt (fun x => u8 x.place) s.spout.cond) ∧
    statusWeighing s = u8 (if s.weigh.ready then 0 else 1) ++ opt Grant.bytes s.weigh.grant ++ u16 s.weigh.nextBatch ++
      opt Report.bytes s.weigh.last ++ yes (decide (s.level .head = .warn)) ++
      u16 (if s.level .head = .warn then s.settings.bNom / 2 / s.settings.division * s.settings.division
        else s.settings.bNom) ∧
    (∀ sel : Byte, 8 < sel.toNat → exec (.readStatus p sel) s = .next (s.answered p 0x28 .badField))
end

