-- ==== Sys2Proof/Laws/State.lean ====
section
/-! SUPPORT. The small lemmas of the state: one per field per update, and reading after writing for each collection. -/

set_option Elab.async false

namespace Sys2Proof.Machine

section
variable (s : State) (h : HoldId) (x : Hold)
@[simp] theorem State.setHold_now : (s.setHold h x).now = s.now := rfl
@[simp] theorem State.setHold_inReset : (s.setHold h x).inReset = s.inReset := rfl
@[simp] theorem State.setHold_inputs : (s.setHold h x).inputs = s.inputs := rfl
@[simp] theorem State.setHold_ship : (s.setHold h x).ship = s.ship := rfl
@[simp] theorem State.setHold_river : (s.setHold h x).river = s.river := rfl
@[simp] theorem State.setHold_suspension : (s.setHold h x).suspension = s.suspension := rfl
@[simp] theorem State.setHold_orders : (s.setHold h x).orders = s.orders := rfl
@[simp] theorem State.setHold_queues : (s.setHold h x).queues = s.queues := rfl
@[simp] theorem State.setHold_lastEnded : (s.setHold h x).lastEnded = s.lastEnded := rfl
@[simp] theorem State.setHold_passes : (s.setHold h x).passes = s.passes := rfl
@[simp] theorem State.setHold_sched : (s.setHold h x).sched = s.sched := rfl
@[simp] theorem State.setHold_pour : (s.setHold h x).pour = s.pour := rfl
@[simp] theorem State.setHold_axes : (s.setHold h x).axes = s.axes := rfl
@[simp] theorem State.setHold_spout : (s.setHold h x).spout = s.spout := rfl
@[simp] theorem State.setHold_weigh : (s.setHold h x).weigh = s.weigh := rfl
@[simp] theorem State.setHold_belt : (s.setHold h x).belt = s.belt := rfl
@[simp] theorem State.setHold_dust : (s.setHold h x).dust = s.dust := rfl
@[simp] theorem State.setHold_lots : (s.setHold h x).lots = s.lots := rfl
@[simp] theorem State.setHold_bank : (s.setHold h x).bank = s.bank := rfl
@[simp] theorem State.setHold_ports : (s.setHold h x).ports = s.ports := rfl
@[simp] theorem State.setHold_settings : (s.setHold h x).settings = s.settings := rfl
@[simp] theorem State.setHold_store : (s.setHold h x).store = s.store := rfl
@[simp] theorem State.setHold_pending : (s.setHold h x).pending = s.pending := rfl
end

section
variable (s : State) (o : OrderId) (x : Order)
@[simp] theorem State.setOrder_now : (s.setOrder o x).now = s.now := rfl
@[simp] theorem State.setOrder_inReset : (s.setOrder o x).inReset = s.inReset := rfl
@[simp] theorem State.setOrder_inputs : (s.setOrder o x).inputs = s.inputs := rfl
@[simp] theorem State.setOrder_holds : (s.setOrder o x).holds = s.holds := rfl
@[simp] theorem State.setOrder_ship : (s.setOrder o x).ship = s.ship := rfl
@[simp] theorem State.setOrder_river : (s.setOrder o x).river = s.river := rfl
@[simp] theorem State.setOrder_suspension : (s.setOrder o x).suspension = s.suspension := rfl
@[simp] theorem State.setOrder_queues : (s.setOrder o x).queues = s.queues := rfl
@[simp] theorem State.setOrder_lastEnded : (s.setOrder o x).lastEnded = s.lastEnded := rfl
@[simp] theorem State.setOrder_passes : (s.setOrder o x).passes = s.passes := rfl
@[simp] theorem State.setOrder_sched : (s.setOrder o x).sched = s.sched := rfl
@[simp] theorem State.setOrder_pour : (s.setOrder o x).pour = s.pour := rfl
@[simp] theorem State.setOrder_axes : (s.setOrder o x).axes = s.axes := rfl
@[simp] theorem State.setOrder_spout : (s.setOrder o x).spout = s.spout := rfl
@[simp] theorem State.setOrder_weigh : (s.setOrder o x).weigh = s.weigh := rfl
@[simp] theorem State.setOrder_belt : (s.setOrder o x).belt = s.belt := rfl
@[simp] theorem State.setOrder_dust : (s.setOrder o x).dust = s.dust := rfl
@[simp] theorem State.setOrder_lots : (s.setOrder o x).lots = s.lots := rfl
@[simp] theorem State.setOrder_bank : (s.setOrder o x).bank = s.bank := rfl
@[simp] theorem State.setOrder_ports : (s.setOrder o x).ports = s.ports := rfl
@[simp] theorem State.setOrder_settings : (s.setOrder o x).settings = s.settings := rfl
@[simp] theorem State.setOrder_store : (s.setOrder o x).store = s.store := rfl
@[simp] theorem State.setOrder_pending : (s.setOrder o x).pending = s.pending := rfl
end

section
variable (s : State) (h : HoldId) (q : List OrderId)
@[simp] theorem State.setQueue_now : (s.setQueue h q).now = s.now := rfl
@[simp] theorem State.setQueue_inReset : (s.setQueue h q).inReset = s.inReset := rfl
@[simp] theorem State.setQueue_inputs : (s.setQueue h q).inputs = s.inputs := rfl
@[simp] theorem State.setQueue_holds : (s.setQueue h q).holds = s.holds := rfl
@[simp] theorem State.setQueue_ship : (s.setQueue h q).ship = s.ship := rfl
@[simp] theorem State.setQueue_river : (s.setQueue h q).river = s.river := rfl
@[simp] theorem State.setQueue_suspension : (s.setQueue h q).suspension = s.suspension := rfl
@[simp] theorem State.setQueue_orders : (s.setQueue h q).orders = s.orders := rfl
@[simp] theorem State.setQueue_lastEnded : (s.setQueue h q).lastEnded = s.lastEnded := rfl
@[simp] theorem State.setQueue_passes : (s.setQueue h q).passes = s.passes := rfl
@[simp] theorem State.setQueue_sched : (s.setQueue h q).sched = s.sched := rfl
@[simp] theorem State.setQueue_pour : (s.setQueue h q).pour = s.pour := rfl
@[simp] theorem State.setQueue_axes : (s.setQueue h q).axes = s.axes := rfl
@[simp] theorem State.setQueue_spout : (s.setQueue h q).spout = s.spout := rfl
@[simp] theorem State.setQueue_weigh : (s.setQueue h q).weigh = s.weigh := rfl
@[simp] theorem State.setQueue_belt : (s.setQueue h q).belt = s.belt := rfl
@[simp] theorem State.setQueue_dust : (s.setQueue h q).dust = s.dust := rfl
@[simp] theorem State.setQueue_lots : (s.setQueue h q).lots = s.lots := rfl
@[simp] theorem State.setQueue_bank : (s.setQueue h q).bank = s.bank := rfl
@[simp] theorem State.setQueue_ports : (s.setQueue h q).ports = s.ports := rfl
@[simp] theorem State.setQueue_settings : (s.setQueue h q).settings = s.settings := rfl
@[simp] theorem State.setQueue_store : (s.setQueue h q).store = s.store := rfl
@[simp] theorem State.setQueue_pending : (s.setQueue h q).pending = s.pending := rfl
end

section
variable (s : State) (l : LotSlot) (x : Lot)
@[simp] theorem State.setLot_now : (s.setLot l x).now = s.now := rfl
@[simp] theorem State.setLot_inReset : (s.setLot l x).inReset = s.inReset := rfl
@[simp] theorem State.setLot_inputs : (s.setLot l x).inputs = s.inputs := rfl
@[simp] theorem State.setLot_holds : (s.setLot l x).holds = s.holds := rfl
@[simp] theorem State.setLot_ship : (s.setLot l x).ship = s.ship := rfl
@[simp] theorem State.setLot_river : (s.setLot l x).river = s.river := rfl
@[simp] theorem State.setLot_suspension : (s.setLot l x).suspension = s.suspension := rfl
@[simp] theorem State.setLot_orders : (s.setLot l x).orders = s.orders := rfl
@[simp] theorem State.setLot_queues : (s.setLot l x).queues = s.queues := rfl
@[simp] theorem State.setLot_lastEnded : (s.setLot l x).lastEnded = s.lastEnded := rfl
@[simp] theorem State.setLot_passes : (s.setLot l x).passes = s.passes := rfl
@[simp] theorem State.setLot_sched : (s.setLot l x).sched = s.sched := rfl
@[simp] theorem State.setLot_pour : (s.setLot l x).pour = s.pour := rfl
@[simp] theorem State.setLot_axes : (s.setLot l x).axes = s.axes := rfl
@[simp] theorem State.setLot_spout : (s.setLot l x).spout = s.spout := rfl
@[simp] theorem State.setLot_weigh : (s.setLot l x).weigh = s.weigh := rfl
@[simp] theorem State.setLot_belt : (s.setLot l x).belt = s.belt := rfl
@[simp] theorem State.setLot_dust : (s.setLot l x).dust = s.dust := rfl
@[simp] theorem State.setLot_bank : (s.setLot l x).bank = s.bank := rfl
@[simp] theorem State.setLot_ports : (s.setLot l x).ports = s.ports := rfl
@[simp] theorem State.setLot_settings : (s.setLot l x).settings = s.settings := rfl
@[simp] theorem State.setLot_store : (s.setLot l x).store = s.store := rfl
@[simp] theorem State.setLot_pending : (s.setLot l x).pending = s.pending := rfl
end

section
variable (s : State) (a : Axis) (x : AxisRec)
@[simp] theorem State.setAxis_now : (s.setAxis a x).now = s.now := rfl
@[simp] theorem State.setAxis_inReset : (s.setAxis a x).inReset = s.inReset := rfl
@[simp] theorem State.setAxis_inputs : (s.setAxis a x).inputs = s.inputs := rfl
@[simp] theorem State.setAxis_holds : (s.setAxis a x).holds = s.holds := rfl
@[simp] theorem State.setAxis_ship : (s.setAxis a x).ship = s.ship := rfl
@[simp] theorem State.setAxis_river : (s.setAxis a x).river = s.river := rfl
@[simp] theorem State.setAxis_suspension : (s.setAxis a x).suspension = s.suspension := rfl
@[simp] theorem State.setAxis_orders : (s.setAxis a x).orders = s.orders := rfl
@[simp] theorem State.setAxis_queues : (s.setAxis a x).queues = s.queues := rfl
@[simp] theorem State.setAxis_lastEnded : (s.setAxis a x).lastEnded = s.lastEnded := rfl
@[simp] theorem State.setAxis_passes : (s.setAxis a x).passes = s.passes := rfl
@[simp] theorem State.setAxis_sched : (s.setAxis a x).sched = s.sched := rfl
@[simp] theorem State.setAxis_pour : (s.setAxis a x).pour = s.pour := rfl
@[simp] theorem State.setAxis_spout : (s.setAxis a x).spout = s.spout := rfl
@[simp] theorem State.setAxis_weigh : (s.setAxis a x).weigh = s.weigh := rfl
@[simp] theorem State.setAxis_belt : (s.setAxis a x).belt = s.belt := rfl
@[simp] theorem State.setAxis_dust : (s.setAxis a x).dust = s.dust := rfl
@[simp] theorem State.setAxis_lots : (s.setAxis a x).lots = s.lots := rfl
@[simp] theorem State.setAxis_bank : (s.setAxis a x).bank = s.bank := rfl
@[simp] theorem State.setAxis_ports : (s.setAxis a x).ports = s.ports := rfl
@[simp] theorem State.setAxis_settings : (s.setAxis a x).settings = s.settings := rfl
@[simp] theorem State.setAxis_store : (s.setAxis a x).store = s.store := rfl
@[simp] theorem State.setAxis_pending : (s.setAxis a x).pending = s.pending := rfl
end

section
variable (s : State) (c : Channel) (x : ChannelRec)
@[simp] theorem State.setChannel_now : (s.setChannel c x).now = s.now := rfl
@[simp] theorem State.setChannel_inReset : (s.setChannel c x).inReset = s.inReset := rfl
@[simp] theorem State.setChannel_inputs : (s.setChannel c x).inputs = s.inputs := rfl
@[simp] theorem State.setChannel_holds : (s.setChannel c x).holds = s.holds := rfl
@[simp] theorem State.setChannel_ship : (s.setChannel c x).ship = s.ship := rfl
@[simp] theorem State.setChannel_river : (s.setChannel c x).river = s.river := rfl
@[simp] theorem State.setChannel_suspension : (s.setChannel c x).suspension = s.suspension := rfl
@[simp] theorem State.setChannel_orders : (s.setChannel c x).orders = s.orders := rfl
@[simp] theorem State.setChannel_queues : (s.setChannel c x).queues = s.queues := rfl
@[simp] theorem State.setChannel_lastEnded : (s.setChannel c x).lastEnded = s.lastEnded := rfl
@[simp] theorem State.setChannel_passes : (s.setChannel c x).passes = s.passes := rfl
@[simp] theorem State.setChannel_sched : (s.setChannel c x).sched = s.sched := rfl
@[simp] theorem State.setChannel_pour : (s.setChannel c x).pour = s.pour := rfl
@[simp] theorem State.setChannel_axes : (s.setChannel c x).axes = s.axes := rfl
@[simp] theorem State.setChannel_spout : (s.setChannel c x).spout = s.spout := rfl
@[simp] theorem State.setChannel_weigh : (s.setChannel c x).weigh = s.weigh := rfl
@[simp] theorem State.setChannel_belt : (s.setChannel c x).belt = s.belt := rfl
@[simp] theorem State.setChannel_lots : (s.setChannel c x).lots = s.lots := rfl
@[simp] theorem State.setChannel_bank : (s.setChannel c x).bank = s.bank := rfl
@[simp] theorem State.setChannel_ports : (s.setChannel c x).ports = s.ports := rfl
@[simp] theorem State.setChannel_settings : (s.setChannel c x).settings = s.settings := rfl
@[simp] theorem State.setChannel_store : (s.setChannel c x).store = s.store := rfl
@[simp] theorem State.setChannel_pending : (s.setChannel c x).pending = s.pending := rfl
end

section
variable (s : State) (p : Port) (x : PortRec)
@[simp] theorem State.setPort_now : (s.setPort p x).now = s.now := rfl
@[simp] theorem State.setPort_inReset : (s.setPort p x).inReset = s.inReset := rfl
@[simp] theorem State.setPort_inputs : (s.setPort p x).inputs = s.inputs := rfl
@[simp] theorem State.setPort_holds : (s.setPort p x).holds = s.holds := rfl
@[simp] theorem State.setPort_ship : (s.setPort p x).ship = s.ship := rfl
@[simp] theorem State.setPort_river : (s.setPort p x).river = s.river := rfl
@[simp] theorem State.setPort_suspension : (s.setPort p x).suspension = s.suspension := rfl
@[simp] theorem State.setPort_orders : (s.setPort p x).orders = s.orders := rfl
@[simp] theorem State.setPort_queues : (s.setPort p x).queues = s.queues := rfl
@[simp] theorem State.setPort_lastEnded : (s.setPort p x).lastEnded = s.lastEnded := rfl
@[simp] theorem State.setPort_passes : (s.setPort p x).passes = s.passes := rfl
@[simp] theorem State.setPort_sched : (s.setPort p x).sched = s.sched := rfl
@[simp] theorem State.setPort_pour : (s.setPort p x).pour = s.pour := rfl
@[simp] theorem State.setPort_axes : (s.setPort p x).axes = s.axes := rfl
@[simp] theorem State.setPort_spout : (s.setPort p x).spout = s.spout := rfl
@[simp] theorem State.setPort_weigh : (s.setPort p x).weigh = s.weigh := rfl
@[simp] theorem State.setPort_belt : (s.setPort p x).belt = s.belt := rfl
@[simp] theorem State.setPort_dust : (s.setPort p x).dust = s.dust := rfl
@[simp] theorem State.setPort_lots : (s.setPort p x).lots = s.lots := rfl
@[simp] theorem State.setPort_bank : (s.setPort p x).bank = s.bank := rfl
@[simp] theorem State.setPort_settings : (s.setPort p x).settings = s.settings := rfl
@[simp] theorem State.setPort_store : (s.setPort p x).store = s.store := rfl
@[simp] theorem State.setPort_pending : (s.setPort p x).pending = s.pending := rfl
end

/-! ### Reading after writing -/

@[simp] theorem PerPort.get_set {α : Type} (v : PerPort α) (p q : Port) (x : α) :
    (v.set p x).get q = if q = p then x else v.get q := by
  cases p <;> cases q <;> rfl

@[simp] theorem PerPort.get_map {α β : Type} (f : α → β) (v : PerPort α) (p : Port) :
    (v.map f).get p = f (v.get p) := by
  cases p <;> rfl

@[simp] theorem PerAxis.get_set {α : Type} (v : PerAxis α) (a b : Axis) (x : α) :
    (v.set a x).get b = if b = a then x else v.get b := by
  cases a <;> cases b <;> rfl

@[simp] theorem PerAxis.get_map {α β : Type} (f : α → β) (v : PerAxis α) (a : Axis) :
    (v.map f).get a = f (v.get a) := by
  cases a <;> rfl

@[simp] theorem PerChannel.get_set {α : Type} (v : PerChannel α) (c d : Channel) (x : α) :
    (v.set c x).get d = if d = c then x else v.get d := by
  cases c <;> cases d <;> rfl

@[simp] theorem State.hold_setHold (s : State) (h k : HoldId) (x : Hold) :
    (s.setHold h x).hold k = if k = h then x else s.hold k := by
  simp only [State.hold, State.setHold, Fin.getElem_fin, Vector.getElem_set, Fin.ext_iff, eq_comm]

@[simp] theorem State.order_setOrder (s : State) (o k : OrderId) (x : Order) :
    (s.setOrder o x).order k = if k = o then x else s.order k := by
  simp only [State.order, State.setOrder, Fin.getElem_fin, Vector.getElem_set, Fin.ext_iff, eq_comm]

@[simp] theorem State.queue_setQueue (s : State) (h k : HoldId) (q : List OrderId) :
    (s.setQueue h q).queue k = if k = h then q else s.queue k := by
  simp only [State.queue, State.setQueue, Fin.getElem_fin, Vector.getElem_set, Fin.ext_iff, eq_comm]

@[simp] theorem State.lot_setLot (s : State) (l k : LotSlot) (x : Lot) :
    (s.setLot l x).lot k = if k = l then x else s.lot k := by
  simp only [State.lot, State.setLot, Fin.getElem_fin, Vector.getElem_set, Fin.ext_iff, eq_comm]

@[simp] theorem State.axis_setAxis (s : State) (a b : Axis) (x : AxisRec) :
    (s.setAxis a x).axis b = if b = a then x else s.axis b := PerAxis.get_set s.axes a b x

@[simp] theorem State.channel_setChannel (s : State) (c d : Channel) (x : ChannelRec) :
    (s.setChannel c x).channel d = if d = c then x else s.channel d := PerChannel.get_set s.dust.channels c d x

@[simp] theorem State.port_setPort (s : State) (p q : Port) (x : PortRec) :
    (s.setPort p x).port q = if q = p then x else s.port q := PerPort.get_set s.ports p q x

/-! ### One collection read after another is written -/

section
variable (s : State) (h : HoldId) (x : Hold)
@[simp] theorem State.setHold_order (k : OrderId) : (s.setHold h x).order k = s.order k := rfl
@[simp] theorem State.setHold_queue (k : HoldId) : (s.setHold h x).queue k = s.queue k := rfl
@[simp] theorem State.setHold_lot (k : LotSlot) : (s.setHold h x).lot k = s.lot k := rfl
@[simp] theorem State.setHold_axis (k : Axis) : (s.setHold h x).axis k = s.axis k := rfl
@[simp] theorem State.setHold_channel (k : Channel) : (s.setHold h x).channel k = s.channel k := rfl
@[simp] theorem State.setHold_port (k : Port) : (s.setHold h x).port k = s.port k := rfl
end

section
variable (s : State) (o : OrderId) (x : Order)
@[simp] theorem State.setOrder_hold (k : HoldId) : (s.setOrder o x).hold k = s.hold k := rfl
@[simp] theorem State.setOrder_queue (k : HoldId) : (s.setOrder o x).queue k = s.queue k := rfl
@[simp] theorem State.setOrder_lot (k : LotSlot) : (s.setOrder o x).lot k = s.lot k := rfl
@[simp] theorem State.setOrder_axis (k : Axis) : (s.setOrder o x).axis k = s.axis k := rfl
@[simp] theorem State.setOrder_channel (k : Channel) : (s.setOrder o x).channel k = s.channel k := rfl
@[simp] theorem State.setOrder_port (k : Port) : (s.setOrder o x).port k = s.port k := rfl
end

section
variable (s : State) (h : HoldId) (q : List OrderId)
@[simp] theorem State.setQueue_hold (k : HoldId) : (s.setQueue h q).hold k = s.hold k := rfl
@[simp] theorem State.setQueue_order (k : OrderId) : (s.setQueue h q).order k = s.order k := rfl
@[simp] theorem State.setQueue_lot (k : LotSlot) : (s.setQueue h q).lot k = s.lot k := rfl
@[simp] theorem State.setQueue_axis (k : Axis) : (s.setQueue h q).axis k = s.axis k := rfl
@[simp] theorem State.setQueue_channel (k : Channel) : (s.setQueue h q).channel k = s.channel k := rfl
@[simp] theorem State.setQueue_port (k : Port) : (s.setQueue h q).port k = s.port k := rfl
end

section
variable (s : State) (l : LotSlot) (x : Lot)
@[simp] theorem State.setLot_hold (k : HoldId) : (s.setLot l x).hold k = s.hold k := rfl
@[simp] theorem State.setLot_order (k : OrderId) : (s.setLot l x).order k = s.order k := rfl
@[simp] theorem State.setLot_queue (k : HoldId) : (s.setLot l x).queue k = s.queue k := rfl
@[simp] theorem State.setLot_axis (k : Axis) : (s.setLot l x).axis k = s.axis k := rfl
@[simp] theorem State.setLot_channel (k : Channel) : (s.setLot l x).channel k = s.channel k := rfl
@[simp] theorem State.setLot_port (k : Port) : (s.setLot l x).port k = s.port k := rfl
end

section
variable (s : State) (a : Axis) (x : AxisRec)
@[simp] theorem State.setAxis_hold (k : HoldId) : (s.setAxis a x).hold k = s.hold k := rfl
@[simp] theorem State.setAxis_order (k : OrderId) : (s.setAxis a x).order k = s.order k := rfl
@[simp] theorem State.setAxis_queue (k : HoldId) : (s.setAxis a x).queue k = s.queue k := rfl
@[simp] theorem State.setAxis_lot (k : LotSlot) : (s.setAxis a x).lot k = s.lot k := rfl
@[simp] theorem State.setAxis_channel (k : Channel) : (s.setAxis a x).channel k = s.channel k := rfl
@[simp] theorem State.setAxis_port (k : Port) : (s.setAxis a x).port k = s.port k := rfl
end

section
variable (s : State) (c : Channel) (x : ChannelRec)
@[simp] theorem State.setChannel_hold (k : HoldId) : (s.setChannel c x).hold k = s.hold k := rfl
@[simp] theorem State.setChannel_order (k : OrderId) : (s.setChannel c x).order k = s.order k := rfl
@[simp] theorem State.setChannel_queue (k : HoldId) : (s.setChannel c x).queue k = s.queue k := rfl
@[simp] theorem State.setChannel_lot (k : LotSlot) : (s.setChannel c x).lot k = s.lot k := rfl
@[simp] theorem State.setChannel_axis (k : Axis) : (s.setChannel c x).axis k = s.axis k := rfl
@[simp] theorem State.setChannel_port (k : Port) : (s.setChannel c x).port k = s.port k := rfl
end

section
variable (s : State) (p : Port) (x : PortRec)
@[simp] theorem State.setPort_hold (k : HoldId) : (s.setPort p x).hold k = s.hold k := rfl
@[simp] theorem State.setPort_order (k : OrderId) : (s.setPort p x).order k = s.order k := rfl
@[simp] theorem State.setPort_queue (k : HoldId) : (s.setPort p x).queue k = s.queue k := rfl
@[simp] theorem State.setPort_lot (k : LotSlot) : (s.setPort p x).lot k = s.lot k := rfl
@[simp] theorem State.setPort_axis (k : Axis) : (s.setPort p x).axis k = s.axis k := rfl
@[simp] theorem State.setPort_channel (k : Channel) : (s.setPort p x).channel k = s.channel k := rfl
end

/-! ### Writing back what was read -/

@[simp] theorem State.setPort_self (s : State) (p : Port) : s.setPort p (s.port p) = s := by
  cases p <;> rfl

@[simp] theorem State.setPort_setPort (s : State) (p : Port) (x y : PortRec) :
    (s.setPort p x).setPort p y = s.setPort p y := by
  cases p <;> rfl

theorem State.port_of_ports (s t : State) (h : t.ports = s.ports) (p : Port) : t.port p = s.port p := by
  simp [State.port, h]

end Sys2Proof.Machine
end

