-- ==== Sys2Proof/Laws/Kept.lean ====
section
/-! SUPPORT. What the operations of scheduling, pouring and travelling leave alone: `Kept s t` lists it once, and each operation has
one lemma that it keeps all of that. The rest, the scheduler record, the pour record, the axes' moves, the queues, the life of the
orders, is what these operations are for.
The theorems of this and the other support files are elaborated one after another: together they take more threads than the memory
limit of a build allows. -/

set_option Elab.async false

namespace Sys2Proof.Machine

@[simp] theorem Hold.commit_commit (r : Hold) : r.commit.commit = r.commit := by
  rcases r with ⟨a, b, c, d, e, f, g, h, i⟩
  cases c <;> rfl

@[simp] theorem Ship.commit_commit (r : Ship) : r.commit.commit = r.commit := by
  rcases r with ⟨a, b, c, d, e, f⟩
  cases c <;> rfl

theorem Hold.Kept.refl (r : Hold) : Hold.Kept r r := .inl rfl

theorem Hold.Kept.trans {r t u : Hold} (a : Hold.Kept r t) (b : Hold.Kept t u) : Hold.Kept r u := by
  rcases a with rfl | rfl
  · exact b
  · rcases b with rfl | rfl
    · exact .inr rfl
    · exact .inr (Hold.commit_commit r)

theorem Ship.Kept.refl (r : Ship) : Ship.Kept r r := .inl rfl

theorem Ship.Kept.trans {r t u : Ship} (a : Ship.Kept r t) (b : Ship.Kept t u) : Ship.Kept r u := by
  rcases a with rfl | rfl
  · exact b
  · rcases b with rfl | rfl
    · exact .inr rfl
    · exact .inr (Ship.commit_commit r)

theorem Passes.Kept.refl (r : Passes) : Passes.Kept r r := .inl rfl

theorem Passes.Kept.trans {r t u : Passes} (a : Passes.Kept r t) (b : Passes.Kept t u) : Passes.Kept r u := by
  rcases a with rfl | rfl
  · exact b
  · rcases b with rfl | rfl <;> exact .inr rfl

/-- The fields of a hold record that no pour boundary changes. -/
theorem Hold.Kept.fields {r t : Hold} (a : Hold.Kept r t) :
    t.declared = r.declared ∧ t.hatchOpen = r.hatchOpen ∧ t.limit = r.limit ∧ t.loaded = r.loaded ∧
      t.billed = r.billed ∧ t.freeboard = r.freeboard ∧ t.lockout = r.lockout := by
  rcases a with rfl | rfl
  · exact ⟨rfl, rfl, rfl, rfl, rfl, rfl, rfl⟩
  · unfold Hold.commit; split <;> exact ⟨rfl, rfl, rfl, rfl, rfl, rfl, rfl⟩

/-- A hold record with no staged copy is left as it is. -/
theorem Hold.Kept.of_unstaged {r t : Hold} (a : Hold.Kept r t) (h : r.staged = none) : t = r := by
  rcases a with rfl | rfl
  · rfl
  · simp [Hold.commit, h]

/-- The fields of the ship particulars that no pour boundary changes. -/
theorem Ship.Kept.fields {r t : Ship} (a : Ship.Kept r t) :
    t.vessel = r.vessel ∧ t.tpc = r.tpc ∧ t.loadedAtReport = r.loadedAtReport := by
  rcases a with rfl | rfl
  · exact ⟨rfl, rfl, rfl⟩
  · unfold Ship.commit; split <;> exact ⟨rfl, rfl, rfl⟩

theorem Order.Kept.refl (r : Order) : Order.Kept r r := ⟨rfl, rfl, rfl, rfl, rfl, rfl, rfl, rfl, rfl, rfl, rfl⟩

theorem Order.Kept.trans {r t u : Order} (a : Order.Kept r t) (b : Order.Kept t u) : Order.Kept r u :=
  ⟨b.1.trans a.1, b.2.trans a.2, b.3.trans a.3, b.4.trans a.4, b.5.trans a.5, b.6.trans a.6, b.7.trans a.7, b.8.trans a.8,
    b.9.trans a.9, b.10.trans a.10, b.11.trans a.11⟩

theorem AxisRec.Kept.refl (r : AxisRec) : AxisRec.Kept r r := ⟨rfl, rfl⟩

theorem AxisRec.Kept.trans {r t u : AxisRec} (a : AxisRec.Kept r t) (b : AxisRec.Kept t u) : AxisRec.Kept r u :=
  ⟨b.1.trans a.1, b.2.trans a.2⟩

/-- Raising flags twice raises them together. -/
theorem PortRec.withFlags_twice (r : PortRec) (f g : BitVec 16) :
    (r.withFlags (r.flags ||| f)).withFlags ((r.withFlags (r.flags ||| f)).flags ||| g) =
      r.withFlags (r.flags ||| (f ||| g)) := by
  simp [PortRec.withFlags, PortRec.refresh, BitVec.or_assoc]

theorem Signalled.trans {u v w : PerPort PortRec} (a : Signalled u v) (b : Signalled v w) : Signalled u w := by
  rcases a with rfl | ⟨f, rfl⟩
  · exact b
  · rcases b with rfl | ⟨g, rfl⟩
    · exact .inr ⟨f, rfl⟩
    · refine .inr ⟨f ||| g, ?_⟩
      simp only [PerPort.map, PortRec.withFlags_twice]

/-- A state that agrees with another field by field is kept; each premise is closed by `rfl` where the states agree by form. -/
theorem Kept.of {s t : State} (now : t.now = s.now := by rfl) (inReset : t.inReset = s.inReset := by rfl)
    (inputs : t.inputs = s.inputs := by rfl) (river : t.river = s.river := by rfl)
    (suspension : t.suspension = s.suspension := by rfl) (ship : Ship.Kept s.ship t.ship := by exact Or.inl rfl)
    (weigh : t.weigh = s.weigh := by rfl)
    (dust : t.dust = s.dust := by rfl) (lots : t.lots = s.lots := by rfl) (bank : t.bank = s.bank := by rfl)
    (settings : t.settings = s.settings := by rfl) (store : t.store = s.store := by rfl)
    (pending : t.pending = s.pending := by rfl) (records : t.belt.records = s.belt.records := by rfl)
    (counter : t.belt.counter = s.belt.counter := by rfl) (lastSpill : t.belt.lastSpill = s.belt.lastSpill := by rfl)
    (passes : Passes.Kept s.passes t.passes := by exact Or.inl rfl) (reasons : t.pour.reasons = s.pour.reasons := by rfl)
    (manual : t.spout.manual = s.spout.manual := by rfl)
    (hold : ∀ h, Hold.Kept (s.hold h) (t.hold h) := by exact fun _ => Hold.Kept.refl _)
    (order : ∀ o, Order.Kept (s.order o) (t.order o) := by exact fun _ => Order.Kept.refl _)
    (axis : ∀ a, AxisRec.Kept (s.axis a) (t.axis a) := by exact fun _ => AxisRec.Kept.refl _)
    (ports : Signalled s.ports t.ports := by exact Or.inl rfl) : Kept s t :=
  ⟨now, inReset, inputs, river, suspension, ship, weigh, dust, lots, bank, settings, store, pending, records, counter,
    lastSpill, passes, reasons, manual, hold, order, axis, ports⟩

theorem Kept.refl (s : State) : Kept s s := Kept.of

theorem Kept.trans {s t u : State} (a : Kept s t) (b : Kept t u) : Kept s u :=
  ⟨b.1.trans a.1, b.2.trans a.2, b.3.trans a.3, b.4.trans a.4, b.5.trans a.5, a.ship.trans b.ship, b.7.trans a.7,
    b.8.trans a.8, b.9.trans a.9, b.10.trans a.10, b.11.trans a.11, b.12.trans a.12, b.13.trans a.13, b.14.trans a.14,
    b.15.trans a.15, b.16.trans a.16, a.passes.trans b.passes, b.18.trans a.18, b.19.trans a.19,
    fun h => (a.hold h).trans (b.hold h), fun o => (a.order o).trans (b.order o), fun x => (a.axis x).trans (b.axis x),
    a.ports.trans b.ports⟩

/-! ### Flags and the scheduler -/

theorem raise_kept (f : EventFlag) (s : State) : Kept s (raise f s) := Kept.of (ports := .inr ⟨f.bit, rfl⟩)

theorem enterState_kept (st : SchedState) (s : State) : Kept s (enterState st s) := by
  unfold enterState
  dsimp only
  split
  · exact (Kept.of : Kept s { s with sched.state := st }).trans (raise_kept _ _)
  · exact Kept.of

theorem clearHeld_kept (s : State) : Kept s (clearHeld s) := Kept.of

theorem commitPasses_kept (s : State) : Kept s (commitPasses s) := by
  unfold commitPasses
  split
  · exact Kept.of (passes := .inr rfl)
  · exact Kept.refl s

theorem startRound_kept (s : State) : Kept s (startRound s) :=
  (commitPasses_kept s).trans ((Kept.of :
    Kept (commitPasses s) { commitPasses s with sched.pass := 0, sched.pos := 0, sched.progress := false }).trans
    (clearHeld_kept _))

theorem wake_kept (s : State) : Kept s (wake s) := by
  unfold wake
  split
  · exact (enterState_kept _ _).trans (startRound_kept _)
  · exact (enterState_kept _ _).trans (startRound_kept _)
  all_goals exact Kept.of

theorem resumeWalk_kept (s : State) : Kept s (resumeWalk s) := by
  unfold resumeWalk
  dsimp only
  split
  · exact (enterState_kept _ _).trans (startRound_kept _)
  · exact (enterState_kept _ _).trans Kept.of

theorem endRound_kept (s : State) : Kept s (endRound s) := by
  unfold endRound
  dsimp only
  split
  · exact startRound_kept s
  · split
    · exact (Kept.of : Kept s { s with sched.held := s.heldOnRest }).trans (enterState_kept _ _)
    · exact (Kept.of : Kept s { s with sched.held := s.heldOnRest }).trans (enterState_kept _ _)

theorem moveCursor_kept (s : State) : Kept s (moveCursor s) := by
  unfold moveCursor; split <;> exact Kept.of

theorem moveOn_kept (s : State) : Kept s (moveOn s) := by
  unfold moveOn
  split
  · exact moveCursor_kept s
  · exact (moveCursor_kept s).trans (endRound_kept _)

theorem raiseHalt_kept (c : HaltCause) (s : State) : Kept s (raiseHalt c s) := by
  unfold raiseHalt
  dsimp only
  split
  · exact Kept.refl s
  · split
    · split
      · exact Kept.refl s
      · exact (Kept.of : Kept s { s with sched.halts := s.sched.halts.add c }).trans (raise_kept _ _)
    · exact (Kept.of : Kept s
        (clearHeld { s with sched.halts := s.sched.halts.add c, sched.active := none, sched.stepFlag := false })).trans
        (enterState_kept _ _)

theorem commitAmendments_kept (s : State) : Kept s (commitAmendments s) := by
  have h : Kept s { s with holds := tabulate fun h => (s.hold h).commit, ship := s.ship.commit } :=
    Kept.of (ship := .inr rfl)
      (hold := fun k => .inr (by simp only [State.hold, Fin.getElem_fin, tabulate_getElem]))
  unfold commitAmendments
  dsimp only
  split
  · exact h.trans (wake_kept _)
  · exact h

theorem boundaryTest_kept (s : State) : Kept s (boundaryTest s) := by
  unfold boundaryTest
  split
  · exact Kept.refl s
  · exact commitAmendments_kept s

/-! ### Axes and travel -/

theorem setAxis_kept (s : State) (a : Axis) (r : AxisRec) (h : AxisRec.Kept (s.axis a) r) : Kept s (s.setAxis a r) :=
  Kept.of (axis := fun b => by
    rw [State.axis_setAxis]
    split
    · subst b; exact h
    · exact AxisRec.Kept.refl _)

theorem AxisRec.command_kept (now : Time) (c : SpeedClass) (r : AxisRec) : AxisRec.Kept r (r.command now c) := ⟨rfl, rfl⟩

theorem AxisRec.move_kept (now : Time) (tol fine : Nat) (lo hi : Int) (timeout : Nat) (k : MoveKind) (x : Int) (r : AxisRec) :
    AxisRec.Kept r (r.move now tol fine lo hi timeout k x) := by
  unfold AxisRec.move; dsimp only; split <;> exact ⟨rfl, rfl⟩

theorem AxisRec.halt_kept (now : Time) (r : AxisRec) : AxisRec.Kept r (r.halt now) := by
  unfold AxisRec.halt; split <;> exact ⟨rfl, rfl⟩

theorem moveAxis_kept (a : Axis) (k : MoveKind) (x : Int) (s : State) : Kept s (moveAxis a k x s) := by
  unfold moveAxis
  split
  · exact Kept.refl s
  · exact setAxis_kept s a _ (AxisRec.move_kept ..)

theorem stopAxes_kept (s : State) : Kept s (stopAxes s) :=
  Kept.of (axis := fun a => by
    simp only [State.axis, stopAxes, PerAxis.get_map]
    exact AxisRec.halt_kept ..)

theorem travelOver_kept (s : State) : Kept s (travelOver s) := Kept.of

theorem checkLower_kept (s : State) : Kept s (checkLower s).1 := by
  unfold checkLower
  split
  · exact travelOver_kept s
  · exact Kept.refl s

theorem lowerMove_kept (s : State) : Kept s (lowerMove s) := by
  unfold lowerMove
  split
  · exact moveAxis_kept ..
  · exact Kept.refl s

theorem beginLower_kept (s : State) : Kept s (beginLower s).1 :=
  (Kept.of : Kept s { s with spout.phase := .lower, spout.cond := some .inProgress }).trans
    ((lowerMove_kept _).trans (checkLower_kept _))

theorem checkTraverse_kept (s : State) : Kept s (checkTraverse s).1 := by
  unfold checkTraverse
  split
  · exact beginLower_kept s
  · exact Kept.refl s

theorem moveTo_kept (a : Axis) (x : Option Int) (s : State) : Kept s (moveTo a x s) := by
  unfold moveTo
  split
  · exact moveAxis_kept ..
  · exact Kept.refl s

theorem beginTraverse_kept (s : State) : Kept s (beginTraverse s).1 :=
  (Kept.of : Kept s { s with spout.phase := .traverse, spout.cond := some .inProgress }).trans
    ((moveTo_kept ..).trans ((moveTo_kept ..).trans (checkTraverse_kept _)))

theorem writeHeight_kept (s : State) : Kept s (writeHeight s) := Kept.of

theorem checkRaise_kept (s : State) : Kept s (checkRaise s).1 := by
  unfold checkRaise
  split
  · split
    · exact beginTraverse_kept s
    · exact Kept.of
  · exact Kept.refl s

theorem raiseMove_kept (s : State) : Kept s (raiseMove s).1 :=
  (Kept.of : Kept s { s with spout.cond := some .inProgress }).trans ((moveAxis_kept ..).trans (checkRaise_kept _))

theorem beginRaise_kept (s : State) : Kept s (beginRaise s).1 := by
  have h : Kept s (writeHeight { s with spout.phase := .raise, spout.cond := some .inProgress }) :=
    (Kept.of : Kept s { s with spout.phase := .raise, spout.cond := some .inProgress }).trans (writeHeight_kept _)
  unfold beginRaise
  dsimp only
  split
  · exact h.trans (beginTraverse_kept _)
  · exact h.trans (raiseMove_kept _)

theorem retakeRaise_kept (s : State) : Kept s (retakeRaise s).1 := by
  unfold retakeRaise
  dsimp only
  split
  · exact (writeHeight_kept s).trans (beginTraverse_kept _)
  · split
    · exact writeHeight_kept s
    · exact (writeHeight_kept s).trans (raiseMove_kept _)

theorem stopTraverse_kept (s : State) : Kept s (stopTraverse s) :=
  Kept.of (axis := fun a => by
    cases a
    · exact AxisRec.halt_kept ..
    · exact AxisRec.halt_kept ..
    · exact AxisRec.Kept.refl _)

theorem checkHeight_kept (s : State) : Kept s (checkHeight s).1 := by
  unfold checkHeight
  dsimp only
  split
  · exact writeHeight_kept s
  · exact (writeHeight_kept s).trans ((stopTraverse_kept _).trans (beginRaise_kept _))

theorem retakeLower_kept (s : State) : Kept s (retakeLower s).1 := by
  unfold retakeLower
  split
  · split
    · exact Kept.refl s
    · exact (lowerMove_kept s).trans (checkLower_kept _)
  · exact Kept.refl s

theorem track_kept (s : State) : Kept s (track s) := by
  unfold track
  split
  · split
    · exact moveAxis_kept ..
    · exact Kept.refl s
  · exact Kept.refl s

theorem recomputeTravel_kept (b : Bool) (s : State) : Kept s (recomputeTravel b s).1 := by
  unfold recomputeTravel
  split
  · split
    · exact Kept.refl s
    · exact retakeRaise_kept s
  · split
    · exact Kept.refl s
    · exact retakeRaise_kept s
  · split
    · exact Kept.refl s
    · exact checkHeight_kept s
  · exact retakeLower_kept s
  · exact track_kept s

theorem spoutArrived_kept (s : State) : Kept s (spoutArrived s).1 := by
  unfold spoutArrived
  split
  · exact checkRaise_kept s
  · exact retakeRaise_kept s
  · exact checkHeight_kept s
  · exact checkLower_kept s
  · exact Kept.refl s

theorem traverseArrived_kept (s : State) : Kept s (traverseArrived s).1 := by
  unfold traverseArrived
  split
  · exact checkTraverse_kept s
  · exact Kept.refl s

theorem restartTravel_kept (b : Bool) (s : State) : Kept s (restartTravel b s).1 := by
  unfold restartTravel
  dsimp only
  split
  · exact beginRaise_kept s
  · split
    · split
      · exact (writeHeight_kept s).trans (beginTraverse_kept _)
      · exact beginRaise_kept s
    · exact beginLower_kept s
    · exact beginRaise_kept s
    · exact beginRaise_kept s

theorem endTravel_kept (s : State) : Kept s (endTravel s) := Kept.of

theorem abandonTravel_kept (s : State) : Kept s (abandonTravel s) := by
  unfold abandonTravel; split <;> exact Kept.of

theorem setRunLine_kept (s : State) : Kept s (setRunLine s) := by
  unfold setRunLine
  split
  · split
    · exact Kept.refl s
    · split <;> exact Kept.of
  · exact Kept.of

/-! ### Ends of a pour and activation -/

theorem setOrder_kept (s : State) (o : OrderId) (r : Order) (h : Order.Kept (s.order o) r) : Kept s (s.setOrder o r) :=
  Kept.of (order := fun k => by
    rw [State.order_setOrder]
    split
    · subst k; exact h
    · exact Order.Kept.refl _)

theorem setQueue_kept (s : State) (h : HoldId) (q : List OrderId) : Kept s (s.setQueue h q) := Kept.of

theorem endOrder_kept (o : OrderId) (s : State) : Kept s (endOrder o s) :=
  (Kept.of : Kept s { s with lastEnded := some o }).trans (raise_kept _ _)

theorem notifyEnd_kept (o : OrderId) (s : State) : Kept s (notifyEnd o s) := by
  unfold notifyEnd
  split
  · exact endOrder_kept o s
  · exact Kept.refl s

theorem dequeue_kept (o : OrderId) (s : State) : Kept s (dequeue o s) := by
  unfold dequeue
  split
  · exact setQueue_kept ..
  · exact Kept.refl s

theorem finishOrder_kept (o : OrderId) (c : EndCause) (s : State) : Kept s (finishOrder o c s) :=
  (setOrder_kept s o { s.order o with state := c.finished, lastEnd := some c.lastEnd }
    ⟨rfl, rfl, rfl, rfl, rfl, rfl, rfl, rfl, rfl, rfl, rfl⟩).trans ((dequeue_kept _ _).trans (notifyEnd_kept _ _))

theorem Order.immediate_kept (c : ImmediateCause) (r : Order) : Order.Kept r (r.immediate c) := by
  unfold Order.immediate; split <;> exact ⟨rfl, rfl, rfl, rfl, rfl, rfl, rfl, rfl, rfl, rfl, rfl⟩

theorem recordImmediate_kept (o : OrderId) (c : ImmediateCause) (s : State) : Kept s (recordImmediate o c s) := by
  unfold recordImmediate
  dsimp only
  split
  · exact (setOrder_kept s o _ (Order.immediate_kept ..)).trans (endOrder_kept _ _)
  · exact setOrder_kept s o _ (Order.immediate_kept ..)

theorem clearPour_kept (s : State) : Kept s (clearPour s) := Kept.of

theorem walkOn_kept (s : State) : Kept s (walkOn s) := by
  unfold walkOn
  split
  · exact (Kept.of : Kept s { s with sched.active := none, sched.stepFlag := false }).trans
      ((moveCursor_kept _).trans (enterState_kept _ _))
  · exact (Kept.of : Kept s { s with sched.active := none }).trans ((enterState_kept _ _).trans (moveOn_kept _))

theorem stopSchedule_kept (s : State) : Kept s (stopSchedule s) :=
  (Kept.of : Kept s (clearHeld { s with sched.active := none, sched.stepFlag := false })).trans (enterState_kept _ _)

theorem afterImmediate_kept (k : After) (s : State) : Kept s (afterImmediate k s) := by
  unfold afterImmediate
  split
  · split
    · exact raiseHalt_kept _ s
    · exact walkOn_kept s
  · exact stopSchedule_kept s
  · exact walkOn_kept s

theorem immediateEnd_kept (c : ImmediateCause) (k : After) (s : State) : Kept s (immediateEnd c k s) := by
  unfold immediateEnd
  split
  · exact (stopAxes_kept s).trans ((endTravel_kept _).trans ((recordImmediate_kept ..).trans
      ((clearPour_kept _).trans ((commitAmendments_kept _).trans (afterImmediate_kept ..)))))
  · exact Kept.refl s

theorem haltWith_kept (c : ImmediateCause) (h : HaltCause) (s : State) : Kept s (haltWith c h s) := by
  unfold haltWith
  split
  · exact immediateEnd_kept ..
  · exact raiseHalt_kept ..

theorem clearActive_kept (s : State) : Kept s { s with sched.active := none } := Kept.of

theorem finaliseStep_kept (c : EndCause) (s : State) : Kept s (finaliseStep c s).1 := by
  unfold finaliseStep
  split
  · exact Kept.refl s
  · next o _ =>
    have h : Kept s (commitAmendments (clearPour (finishOrder o c (endTravel (stopAxes s))))) :=
      (stopAxes_kept s).trans ((endTravel_kept _).trans ((finishOrder_kept ..).trans
        ((clearPour_kept _).trans (commitAmendments_kept _))))
    dsimp only
    split
    · exact h.trans (walkOn_kept _)
    · split
      · exact h.trans (clearActive_kept _)
      · exact h.trans (walkOn_kept _)

theorem enterPaused_kept (r : ReturnState) (s : State) : Kept s (enterPaused r s) :=
  (enterState_kept .paused s).trans ((stopAxes_kept _).trans ((abandonTravel_kept _).trans
    ((setRunLine_kept _).trans Kept.of)))

theorem writeSpot_kept (h : HoldId) (x : Option (Along × Across)) (s : State) : Kept s (writeSpot h x s) := by
  unfold writeSpot; split <;> exact Kept.of

theorem beginPour_kept (o : OrderId) (h : HoldId) (s : State) :
    Kept s { s with sched.active := some o, sched.progress := true, belt.lastHold := some h } := Kept.of

theorem setPhase_kept (x : Phase) (s : State) : Kept s { s with spout.phase := x } := Kept.of

theorem activateStep_kept (o : OrderId) (s : State) : Kept s (activateStep o s).1 := by
  unfold activateStep
  split
  · exact walkOn_kept s
  · next h _ =>
    have a : Kept s (clearPour (s.setOrder o { s.order o with state := .active })) :=
      (setOrder_kept s o { s.order o with state := .active }
        ⟨rfl, rfl, rfl, rfl, rfl, rfl, rfl, rfl, rfl, rfl, rfl⟩).trans (clearPour_kept _)
    have b := (a.trans (beginPour_kept o h _)).trans (enterState_kept .travelling _)
    dsimp only
    split
    · exact b.trans (immediateEnd_kept ..)
    · split
      · exact b.trans ((writeSpot_kept ..).trans (beginRaise_kept _))
      · exact b.trans ((writeSpot_kept ..).trans ((setPhase_kept .raise _).trans (enterPaused_kept ..)))

theorem enterFeeding_kept (st : SchedState) (s : State) : Kept s (enterFeeding st s) :=
  (enterState_kept st s).trans ((setRunLine_kept _).trans (track_kept _))

theorem runActivation_kept (n : Nat) (o : OrderId) (s : State) : Kept s (runActivation n o s) := by
  induction n generalizing o s with
  | zero => exact walkOn_kept s
  | succ n ih =>
    have a := activateStep_kept o s
    unfold runActivation
    split
    · next t h => rw [h] at a; exact a
    · next t h =>
      rw [h] at a
      split
      · have f := finaliseStep_kept .complete t
        split
        · next u m e => rw [e] at f; exact a.trans (f.trans (ih m u))
        · next u e => rw [e] at f; exact a.trans f
      · exact a.trans (enterFeeding_kept ..)

theorem activate_kept (o : OrderId) (s : State) : Kept s (activate o s) := runActivation_kept 65 o s

theorem finalise_kept (c : EndCause) (s : State) : Kept s (finalise c s) := by
  have f := finaliseStep_kept c s
  unfold finalise
  split
  · next t n e => rw [e] at f; exact f.trans (activate_kept n t)
  · next t e => rw [e] at f; exact f

theorem finalisationTest_kept (s : State) : Kept s (finalisationTest s) := by
  unfold finalisationTest
  split
  · exact finalise_kept ..
  · exact Kept.refl s

theorem travelComplete_kept (s : State) : Kept s (travelComplete s) := by
  unfold travelComplete
  split
  · exact Kept.refl s
  · split
    · exact finalise_kept ..
    · split
      · exact enterFeeding_kept ..
      · exact (enterFeeding_kept ..).trans (finalisationTest_kept _)

theorem settle_kept {s : State} (r : State × Bool) (h : Kept s r.1) : Kept s (settle r) := by
  unfold settle
  split
  · exact h.trans (travelComplete_kept _)
  · exact h

theorem recompute_kept (s : State) : Kept s (recompute s) := settle_kept _ (recomputeTravel_kept false s)

theorem orderlyEnd_kept (c : EndCause) (s : State) : Kept s (orderlyEnd c s) := by
  unfold orderlyEnd
  dsimp only
  split
  · exact (Kept.of : Kept s { s with pour.endCause := some (combineCause s.pour.endCause c) }).trans
      ((enterState_kept _ _).trans ((setRunLine_kept _).trans (finalisationTest_kept _)))
  · split
    · exact finalise_kept ..
    · exact Kept.of
  · split
    · exact finalise_kept ..
    · exact Kept.of
  · split
    · exact finalise_kept ..
    · exact Kept.of
  all_goals exact Kept.of

theorem leavePause_kept (s : State) : Kept s (leavePause s) := by
  have h : Kept s { s with pour.returnState := none, pour.manualSeen := false } := Kept.of
  unfold leavePause
  dsimp only
  split
  · exact h.trans (enterFeeding_kept ..)
  · exact h.trans ((enterFeeding_kept ..).trans (finalisationTest_kept _))
  · exact h.trans ((enterState_kept _ _).trans (settle_kept _ (restartTravel_kept ..)))
  · exact h.trans ((enterState_kept _ _).trans (settle_kept _ (restartTravel_kept ..)))
  · exact h.trans ((enterState_kept _ _).trans (settle_kept _ (restartTravel_kept ..)))
  · exact Kept.refl s

/-- A reason added, and beside that nothing the list names. -/
theorem addReason_kept (c : PauseReason) (s : State) :
    Kept { s with pour.reasons := s.pour.reasons.put c true } (addReason c s) := by
  unfold addReason
  dsimp only
  split
  · split
    · exact enterPaused_kept ..
    · exact Kept.refl _
  · split
    · exact enterPaused_kept ..
    · exact Kept.refl _
  · split
    · exact Kept.of
    · exact Kept.refl _
  all_goals exact Kept.refl _

/-- A reason removed, and beside that nothing the list names. -/
theorem removeReason_kept (c : PauseReason) (s : State) :
    Kept { s with pour.reasons := s.pour.reasons.put c false } (removeReason c s) := by
  unfold removeReason
  dsimp only
  split
  · exact leavePause_kept _
  · exact Kept.refl _

theorem AxisRec.fail_kept (why : AxisReason) (r : AxisRec) : AxisRec.Kept r (r.fail why) := ⟨rfl, rfl⟩

theorem failAxis_kept (a : Axis) (r : AxisReason) (s : State) : Kept s (failAxis a r s) := by
  unfold failAxis
  split
  · exact Kept.refl s
  · exact (setAxis_kept s a _ (AxisRec.fail_kept r _)).trans ((raise_kept _ _).trans (immediateEnd_kept ..))

theorem beltFailure_kept (s : State) : Kept s (beltFailure s) := immediateEnd_kept ..

theorem exclusionFormed_kept (m : HoldSet) (s : State) : Kept s (exclusionFormed m s) := by
  unfold exclusionFormed
  dsimp only
  split
  · exact Kept.refl s
  · split
    · split
      · exact (raise_kept _ _).trans ((wake_kept _).trans (immediateEnd_kept ..))
      · exact (raise_kept _ _).trans (wake_kept _)
    · exact (raise_kept _ _).trans (wake_kept _)

end Sys2Proof.Machine
end

