-- ==== Sys2Proof/Laws/Ends.lean ====
section
/-! SUPPORT. What the operations at the end of a pour do, said once in the terms of Safety.lean: the start and the end of a round
(R46, R53), the scheduler after an end (R44, R54, R57), what the order pool records (R28 to R30), an immediate end (R76). -/

set_option Elab.async false

namespace Sys2Proof.Machine

variable {s : State} {o : OrderId} {h : HoldId}

/-- A pour is in progress in the pour states alone. -/
theorem isPour_of_pourOrder (e : s.pourOrder = some o) : s.sched.state.isPour = true := by
  unfold State.pourOrder at e; split at e
  · assumption
  · cases e

theorem active_of_pourOrder (e : s.pourOrder = some o) : s.sched.active = some o := by
  rw [State.pourOrder, isPour_of_pourOrder e] at e; exact e

/-- A pour state is no resting state. -/
theorem SchedState.resting_of_isPour {st : SchedState} (e : st.isPour = true) : st.resting = false := by
  cases st <;> first | rfl | cases e

/-- A wake event in a pour state has no effect (R56). -/
theorem wake_pour (e : s.sched.state.isPour = true) : wake s = s := by
  unfold wake; split <;> first | rfl | simp_all [SchedState.isPour]

/-- Amendments committed in a pour state wake nothing (R8, R56). -/
theorem commitAmendments_pour (e : s.sched.state.isPour = true) : commitAmendments s = s.amended := by
  unfold commitAmendments
  simp only []
  split
  · exact wake_pour e
  · rfl

/-- Entering a state that is not resting from one that is not raises nothing (R59). -/
theorem enterState_quiet {st : SchedState} (e : st.resting = false) (f : s.sched.state.resting = false) :
    enterState st s = { s with sched.state := st } := by
  simp [enterState, e, f]

/-- Entering a resting state from one that is not raises SCHEDULE (R59). -/
theorem enterState_rest {st : SchedState} (e : st.resting = true) (f : s.sched.state.resting = false) :
    enterState st s = raise .schedule { s with sched.state := st } := by
  have : st ≠ s.sched.state := by intro k; rw [k, f] at e; cases e
  simp [enterState, e, f, this]

theorem moveCursor_eq (s : State) : moveCursor s = s.cursorOn := rfl

theorem planned_iff (s : State) (h : HoldId) : s.planned h = true ↔ ∃ n, h ∈ s.chain n := by
  simp [State.planned, List.any_eq_true]

/-- The held-cause table on entry into HELD, as R53 states it. -/
theorem heldOnRest_eq (s : State) : s.heldOnRest = tabulate fun h =>
    if s.queue h = [] then none else if ∃ n, h ∈ s.chain n then s.sched.held[h] else some .unplanned := by
  unfold State.heldOnRest
  congr 1
  funext h
  simp only [List.isEmpty_iff, planned_iff]

/-- The start of a round (R46). -/
theorem startRound_eq (s : State) : startRound s = s.roundStarted := by
  unfold startRound commitPasses State.roundStarted
  split <;> rfl

/-- The end of a round in SEEKING (R53). -/
theorem endRound_eq (e : s.sched.state = .seeking) : endRound s = s.roundEnded := by
  have f : (s.sched.state).resting = false := by rw [e]; rfl
  have q : ((List.finRange 8).all fun h => (s.queue h).isEmpty) = decide (∀ h, s.queue h = []) := by
    rw [Bool.eq_iff_iff]; simp [List.all_eq_true]
  unfold endRound State.roundEnded
  split
  · exact startRound_eq s
  · simp only [← heldOnRest_eq]
    change (if ((List.finRange 8).all fun h => (s.queue h).isEmpty) then _ else _) = _
    rw [q]
    by_cases k : ∀ h, s.queue h = []
    · rw [if_pos (by simpa using k), if_pos k]; exact enterState_rest rfl f
    · rw [if_neg (by simpa using k), if_neg k]; exact enterState_rest rfl f

/-- The cursor moves on and a round end is acted on (R45, R53). -/
theorem moveOn_eq (e : s.sched.state = .seeking) :
    moveOn s = if s.nextPosition = none then s.cursorOn.roundEnded else s.cursorOn := by
  have c : s.cursorOn.sched.state = .seeking := by unfold State.cursorOn; split <;> exact e
  unfold moveOn
  simp only [moveCursor_eq]
  cases hn : s.nextPosition with
  | none => simp [endRound_eq c]
  | some _ => simp

/-- The scheduler after an end that leads to no activation (R54). -/
theorem walkOn_eq (e : s.sched.state.isPour = true) : walkOn s = s.walkedOn := by
  have f := SchedState.resting_of_isPour e
  unfold walkOn State.walkedOn
  split
  · rw [moveCursor_eq, enterState_rest rfl (by unfold State.cursorOn; split <;> exact f)]
    congr 1
    unfold State.cursorOn
    cases h : s.nextPosition with
    | none => rw [show ({ s with sched.active := none, sched.stepFlag := false } : State).nextPosition = none from h]
    | some _ => rw [show ({ s with sched.active := none, sched.stepFlag := false } : State).nextPosition = some _ from h]
  · rw [enterState_quiet (st := .seeking) rfl (by exact f), moveOn_eq rfl]
    unfold State.cursorOn
    cases h : s.nextPosition with
    | none => simp [show ({ s with sched.active := none, sched.state := .seeking } : State).nextPosition = none from h]
    | some _ => simp [show ({ s with sched.active := none, sched.state := .seeking } : State).nextPosition = some _ from h]

/-- A halt entered from a pour state (R57). -/
theorem raiseHalt_eq {c : HaltCause} (v : s.vesselOpen = true) (e : s.sched.state.isPour = true) :
    raiseHalt c s = s.rested .halted (s.sched.halts.add c) := by
  have f := SchedState.resting_of_isPour e
  have k : s.sched.state ≠ .halted := by intro k; rw [k] at e; cases e
  unfold raiseHalt
  simp only [v, Bool.not_true, Bool.false_eq_true, if_false, if_neg k]
  exact enterState_rest rfl f

/-- HALT SCHEDULE from a pour state (R44). -/
theorem stopSchedule_eq (e : s.sched.state.isPour = true) : stopSchedule s = s.rested .stopped s.sched.halts :=
  enterState_rest rfl (SchedState.resting_of_isPour e)

/-- What the order pool records of a YIELD (R28). -/
theorem recordImmediate_yield : recordImmediate o .yield s = s.orderYielded o := by
  simp [recordImmediate, Order.immediate, State.orderYielded]

/-- What the order pool records of a FAULT (R29, R30). -/
theorem recordImmediate_fault {k : FaultKind} : recordImmediate o (.fault k) s = s.orderFaulted o k := by
  unfold recordImmediate State.orderFaulted
  by_cases l : (s.order o).retryLimit = 0
  · simp [Order.immediate, l]
  · by_cases r : 1 < (s.order o).retriesLeft
    · simp [Order.immediate, l, r, Nat.not_le.mpr r]
    · have q : (s.order o).retriesLeft - 1 = 0 := by omega
      simp [Order.immediate, l, r, Nat.not_lt.mp r, q, endOrder]
      rfl

/-- The order, the axes, the spout and the pour record at an end of a pour whose order record is written by `f` (R60, R75, R76, R8). -/
theorem commit_end (e : s.sched.state.isPour = true) :
    commitAmendments (clearPour (endTravel (stopAxes s))) = s.pourOver := by
  rw [commitAmendments_pour (by exact e)]; rfl

/-- A YIELD (R28, R76): the order's record, what every end leaves, and the scheduler after it. -/
theorem immediateEnd_yield {k : After} (e : s.pourOrder = some o) :
    immediateEnd .yield k s = afterImmediate k (s.orderYielded o).pourOver := by
  have p := isPour_of_pourOrder e
  simp only [immediateEnd, e, recordImmediate_yield]
  congr 1
  exact commit_end (s := s.orderYielded o) p

/-- A FAULT (R29, R76): the order's record, what every end leaves, and the scheduler after it. -/
theorem immediateEnd_fault {k : After} {f : FaultKind} (e : s.pourOrder = some o) :
    immediateEnd (.fault f) k s = afterImmediate k (s.orderFaulted o f).pourOver := by
  have p := isPour_of_pourOrder e
  have q : (s.orderFaulted o f).sched.state.isPour = true := by
    unfold State.orderFaulted; simp only []; split <;> [skip; split] <;> exact p
  have w : endTravel (stopAxes (s.orderFaulted o f)) = (endTravel (stopAxes s)).orderFaulted o f := by
    simp only [State.orderFaulted]
    by_cases l : (s.order o).retryLimit = 0
    · rw [if_pos l, if_pos (show ((endTravel (stopAxes s)).order o).retryLimit = 0 from l)]; rfl
    · rw [if_neg l, if_neg (show ¬((endTravel (stopAxes s)).order o).retryLimit = 0 from l)]
      by_cases r : 1 < (s.order o).retriesLeft
      · rw [if_pos r, if_pos (show 1 < ((endTravel (stopAxes s)).order o).retriesLeft from r)]; rfl
      · rw [if_neg r, if_neg (show ¬1 < ((endTravel (stopAxes s)).order o).retriesLeft from r)]; rfl
  simp only [immediateEnd, e, recordImmediate_fault]
  rw [← commit_end q, w]

end Sys2Proof.Machine
end

