-- ==== Sys2Proof/Laws/PerInstr.lean ====
section
/-! SUPPORT. One lemma per command for the family `Framing`: the request of a well-formed command fits a frame and has a code of the
table of R178, and a command has a code exactly when it names the port it is sent at. -/

set_option Elab.async false

namespace Sys2Proof.Laws

/-- A well-formed command's request body fits a frame (R174), its code is at most 2EH (R175), and it has a code exactly when it
names a port. -/
def Framing.Statement (i : Instr) : Prop :=
  i.wellFormed = true →
    i.requestBody.length ≤ 249 ∧ i.requestCode.toNat ≤ 0x2E ∧ (i.requestCode = 0 ↔ i.requestPort = none)

theorem Framing.vesselOpen (p : Port) (code : BitVec 16) :
    Framing.Statement (.vesselOpen p code) := fun _ =>
  ⟨Nat.le_of_ble_eq_true rfl, Nat.le_of_ble_eq_true rfl, by simp [Instr.requestCode, Instr.requestPort]⟩

theorem Framing.vesselClose (p : Port) :
    Framing.Statement (.vesselClose p) := fun _ =>
  ⟨Nat.le_of_ble_eq_true rfl, Nat.le_of_ble_eq_true rfl, by simp [Instr.requestCode, Instr.requestPort]⟩

theorem Framing.declareHold (p : Port) (hold : Byte) (foreX aftX innerY outerY coaming : BitVec 16) (key mask : Byte) :
    Framing.Statement (.declareHold p hold foreX aftX innerY outerY coaming key mask) := fun _ =>
  ⟨Nat.le_of_ble_eq_true rfl, Nat.le_of_ble_eq_true rfl, by simp [Instr.requestCode, Instr.requestPort]⟩

theorem Framing.setShipOffset (p : Port) (offset : BitVec 16) (heading : Byte) :
    Framing.Statement (.setShipOffset p offset heading) := fun _ =>
  ⟨Nat.le_of_ble_eq_true rfl, Nat.le_of_ble_eq_true rfl, by simp [Instr.requestCode, Instr.requestPort]⟩

theorem Framing.readHold (p : Port) (hold : Byte) :
    Framing.Statement (.readHold p hold) := fun _ =>
  ⟨Nat.le_of_ble_eq_true rfl, Nat.le_of_ble_eq_true rfl, by simp [Instr.requestCode, Instr.requestPort]⟩

theorem Framing.readStaged (p : Port) (hold : Byte) :
    Framing.Statement (.readStaged p hold) := fun _ =>
  ⟨Nat.le_of_ble_eq_true rfl, Nat.le_of_ble_eq_true rfl, by simp [Instr.requestCode, Instr.requestPort]⟩

theorem Framing.setHoldLimit (p : Port) (hold : Byte) (limit : BitVec 32) :
    Framing.Statement (.setHoldLimit p hold limit) := fun _ =>
  ⟨Nat.le_of_ble_eq_true rfl, Nat.le_of_ble_eq_true rfl, by simp [Instr.requestCode, Instr.requestPort]⟩

theorem Framing.closeHatch (p : Port) (hold : Byte) :
    Framing.Statement (.closeHatch p hold) := fun _ =>
  ⟨Nat.le_of_ble_eq_true rfl, Nat.le_of_ble_eq_true rfl, by simp [Instr.requestCode, Instr.requestPort]⟩

theorem Framing.openHatch (p : Port) (hold : Byte) :
    Framing.Statement (.openHatch p hold) := fun _ =>
  ⟨Nat.le_of_ble_eq_true rfl, Nat.le_of_ble_eq_true rfl, by simp [Instr.requestCode, Instr.requestPort]⟩

theorem Framing.reportDraft (p : Port) (entries : List (Byte × BitVec 16)) :
    Framing.Statement (.reportDraft p entries) := by
  intro h
  simp only [Instr.wellFormed, decide_eq_true_eq] at h
  refine ⟨?_, Nat.le_of_ble_eq_true rfl, by simp [Instr.requestCode, Instr.requestPort]⟩
  have e : ∀ es : List (Byte × BitVec 16), (es.flatMap fun e => e.1 :: bytes16 e.2).length = 3 * es.length := by
    intro es
    induction es with
    | nil => rfl
    | cons a as ih =>
      simp only [List.flatMap_cons, List.length_append, ih, List.length_cons]
      simp [bytes16]
      omega
  simp only [Instr.requestBody, List.length_cons, e]
  omega

theorem Framing.setTpc (p : Port) (tpc : BitVec 32) :
    Framing.Statement (.setTpc p tpc) := fun _ =>
  ⟨Nat.le_of_ble_eq_true rfl, Nat.le_of_ble_eq_true rfl, by simp [Instr.requestCode, Instr.requestPort]⟩

theorem Framing.suspend (p : Port) (holds : List Byte) :
    Framing.Statement (.suspend p holds) := by
  intro h
  simp only [Instr.wellFormed, decide_eq_true_eq] at h
  exact ⟨by simp only [Instr.requestBody, List.length_cons]; omega, Nat.le_of_ble_eq_true rfl,
    by simp [Instr.requestCode, Instr.requestPort]⟩

theorem Framing.resume (p : Port) :
    Framing.Statement (.resume p) := fun _ =>
  ⟨Nat.le_of_ble_eq_true rfl, Nat.le_of_ble_eq_true rfl, by simp [Instr.requestCode, Instr.requestPort]⟩

theorem Framing.holdFeed (p : Port) :
    Framing.Statement (.holdFeed p) := fun _ =>
  ⟨Nat.le_of_ble_eq_true rfl, Nat.le_of_ble_eq_true rfl, by simp [Instr.requestCode, Instr.requestPort]⟩

theorem Framing.releaseFeed (p : Port) :
    Framing.Statement (.releaseFeed p) := fun _ =>
  ⟨Nat.le_of_ble_eq_true rfl, Nat.le_of_ble_eq_true rfl, by simp [Instr.requestCode, Instr.requestPort]⟩

theorem Framing.addOrder (p : Port) (lot : BitVec 16) (hold : Byte) (target : BitVec 32) (along across cont notify retry : Byte) :
    Framing.Statement (.addOrder p lot hold target along across cont notify retry) := fun _ =>
  ⟨Nat.le_of_ble_eq_true rfl, Nat.le_of_ble_eq_true rfl, by simp [Instr.requestCode, Instr.requestPort]⟩

theorem Framing.withdrawOrder (p : Port) (order : Byte) :
    Framing.Statement (.withdrawOrder p order) := fun _ =>
  ⟨Nat.le_of_ble_eq_true rfl, Nat.le_of_ble_eq_true rfl, by simp [Instr.requestCode, Instr.requestPort]⟩

theorem Framing.rearmOrder (p : Port) (order : Byte) :
    Framing.Statement (.rearmOrder p order) := fun _ =>
  ⟨Nat.le_of_ble_eq_true rfl, Nat.le_of_ble_eq_true rfl, by simp [Instr.requestCode, Instr.requestPort]⟩

theorem Framing.releaseOrder (p : Port) (order : Byte) :
    Framing.Statement (.releaseOrder p order) := fun _ =>
  ⟨Nat.le_of_ble_eq_true rfl, Nat.le_of_ble_eq_true rfl, by simp [Instr.requestCode, Instr.requestPort]⟩

theorem Framing.readOrder (p : Port) (order : Byte) :
    Framing.Statement (.readOrder p order) := fun _ =>
  ⟨Nat.le_of_ble_eq_true rfl, Nat.le_of_ble_eq_true rfl, by simp [Instr.requestCode, Instr.requestPort]⟩

theorem Framing.setPass (p : Port) (pass : Byte) (holds : List Byte) :
    Framing.Statement (.setPass p pass holds) := by
  intro h
  simp only [Instr.wellFormed, decide_eq_true_eq] at h
  exact ⟨by simp only [Instr.requestBody, List.length_cons]; omega, Nat.le_of_ble_eq_true rfl,
    by simp [Instr.requestCode, Instr.requestPort]⟩

theorem Framing.clearPass (p : Port) (pass : Byte) :
    Framing.Statement (.clearPass p pass) := fun _ =>
  ⟨Nat.le_of_ble_eq_true rfl, Nat.le_of_ble_eq_true rfl, by simp [Instr.requestCode, Instr.requestPort]⟩

theorem Framing.readPass (p : Port) (pass selector : Byte) :
    Framing.Statement (.readPass p pass selector) := fun _ =>
  ⟨Nat.le_of_ble_eq_true rfl, Nat.le_of_ble_eq_true rfl, by simp [Instr.requestCode, Instr.requestPort]⟩

theorem Framing.start (p : Port) :
    Framing.Statement (.start p) := fun _ =>
  ⟨Nat.le_of_ble_eq_true rfl, Nat.le_of_ble_eq_true rfl, by simp [Instr.requestCode, Instr.requestPort]⟩

theorem Framing.step (p : Port) :
    Framing.Statement (.step p) := fun _ =>
  ⟨Nat.le_of_ble_eq_true rfl, Nat.le_of_ble_eq_true rfl, by simp [Instr.requestCode, Instr.requestPort]⟩

theorem Framing.haltSchedule (p : Port) :
    Framing.Statement (.haltSchedule p) := fun _ =>
  ⟨Nat.le_of_ble_eq_true rfl, Nat.le_of_ble_eq_true rfl, by simp [Instr.requestCode, Instr.requestPort]⟩

theorem Framing.pause (p : Port) :
    Framing.Statement (.pause p) := fun _ =>
  ⟨Nat.le_of_ble_eq_true rfl, Nat.le_of_ble_eq_true rfl, by simp [Instr.requestCode, Instr.requestPort]⟩

theorem Framing.continuePour (p : Port) :
    Framing.Statement (.continuePour p) := fun _ =>
  ⟨Nat.le_of_ble_eq_true rfl, Nat.le_of_ble_eq_true rfl, by simp [Instr.requestCode, Instr.requestPort]⟩

theorem Framing.topOff (p : Port) :
    Framing.Statement (.topOff p) := fun _ =>
  ⟨Nat.le_of_ble_eq_true rfl, Nat.le_of_ble_eq_true rfl, by simp [Instr.requestCode, Instr.requestPort]⟩

theorem Framing.takeManual (p : Port) :
    Framing.Statement (.takeManual p) := fun _ =>
  ⟨Nat.le_of_ble_eq_true rfl, Nat.le_of_ble_eq_true rfl, by simp [Instr.requestCode, Instr.requestPort]⟩

theorem Framing.releaseManual (p : Port) :
    Framing.Statement (.releaseManual p) := fun _ =>
  ⟨Nat.le_of_ble_eq_true rfl, Nat.le_of_ble_eq_true rfl, by simp [Instr.requestCode, Instr.requestPort]⟩

theorem Framing.jog (p : Port) (axis : Byte) (distance : BitVec 32) :
    Framing.Statement (.jog p axis distance) := fun _ =>
  ⟨Nat.le_of_ble_eq_true rfl, Nat.le_of_ble_eq_true rfl, by simp [Instr.requestCode, Instr.requestPort]⟩

theorem Framing.silenceHorn (p : Port) :
    Framing.Statement (.silenceHorn p) := fun _ =>
  ⟨Nat.le_of_ble_eq_true rfl, Nat.le_of_ble_eq_true rfl, by simp [Instr.requestCode, Instr.requestPort]⟩

theorem Framing.nextBatch (p : Port) :
    Framing.Statement (.nextBatch p) := fun _ =>
  ⟨Nat.le_of_ble_eq_true rfl, Nat.le_of_ble_eq_true rfl, by simp [Instr.requestCode, Instr.requestPort]⟩

theorem Framing.batchReport (p : Port) (batch : BitVec 16) (gross tare : BitVec 32) (flags : Byte) :
    Framing.Statement (.batchReport p batch gross tare flags) := fun _ =>
  ⟨Nat.le_of_ble_eq_true rfl, Nat.le_of_ble_eq_true rfl, by simp [Instr.requestCode, Instr.requestPort]⟩

theorem Framing.scaleStatus (p : Port) (readiness : Byte) :
    Framing.Statement (.scaleStatus p readiness) := fun _ =>
  ⟨Nat.le_of_ble_eq_true rfl, Nat.le_of_ble_eq_true rfl, by simp [Instr.requestCode, Instr.requestPort]⟩

theorem Framing.openLot (p : Port) (lot shipper : BitVec 16) (grade : Byte) (declared : BitVec 32) :
    Framing.Statement (.openLot p lot shipper grade declared) := fun _ =>
  ⟨Nat.le_of_ble_eq_true rfl, Nat.le_of_ble_eq_true rfl, by simp [Instr.requestCode, Instr.requestPort]⟩

theorem Framing.closeLot (p : Port) (lot : BitVec 16) :
    Framing.Statement (.closeLot p lot) := fun _ =>
  ⟨Nat.le_of_ble_eq_true rfl, Nat.le_of_ble_eq_true rfl, by simp [Instr.requestCode, Instr.requestPort]⟩

theorem Framing.readLot (p : Port) (lot : BitVec 16) :
    Framing.Statement (.readLot p lot) := fun _ =>
  ⟨Nat.le_of_ble_eq_true rfl, Nat.le_of_ble_eq_true rfl, by simp [Instr.requestCode, Instr.requestPort]⟩

theorem Framing.readBill (p : Port) :
    Framing.Statement (.readBill p) := fun _ =>
  ⟨Nat.le_of_ble_eq_true rfl, Nat.le_of_ble_eq_true rfl, by simp [Instr.requestCode, Instr.requestPort]⟩

theorem Framing.releaseBill (p : Port) (bill : BitVec 32) :
    Framing.Statement (.releaseBill p bill) := fun _ =>
  ⟨Nat.le_of_ble_eq_true rfl, Nat.le_of_ble_eq_true rfl, by simp [Instr.requestCode, Instr.requestPort]⟩

theorem Framing.writeSetting (p : Port) (setting : Byte) (sub : Option Byte) (value : BitVec 32) :
    Framing.Statement (.writeSetting p setting sub value) := by
  intro _
  exact ⟨by cases sub <;> exact Nat.le_of_ble_eq_true rfl, Nat.le_of_ble_eq_true rfl,
    by simp [Instr.requestCode, Instr.requestPort]⟩

theorem Framing.readSetting (p : Port) (setting : Byte) (sub : Option Byte) :
    Framing.Statement (.readSetting p setting sub) := by
  intro _
  exact ⟨by cases sub <;> exact Nat.le_of_ble_eq_true rfl, Nat.le_of_ble_eq_true rfl,
    by simp [Instr.requestCode, Instr.requestPort]⟩

theorem Framing.readStatus (p : Port) (selector : Byte) :
    Framing.Statement (.readStatus p selector) := fun _ =>
  ⟨Nat.le_of_ble_eq_true rfl, Nat.le_of_ble_eq_true rfl, by simp [Instr.requestCode, Instr.requestPort]⟩

theorem Framing.readEvents (p : Port) :
    Framing.Statement (.readEvents p) := fun _ =>
  ⟨Nat.le_of_ble_eq_true rfl, Nat.le_of_ble_eq_true rfl, by simp [Instr.requestCode, Instr.requestPort]⟩

theorem Framing.setEventEnable (p : Port) (flags : BitVec 16) :
    Framing.Statement (.setEventEnable p flags) := fun _ =>
  ⟨Nat.le_of_ble_eq_true rfl, Nat.le_of_ble_eq_true rfl, by simp [Instr.requestCode, Instr.requestPort]⟩

theorem Framing.frameRefused (p : Port) (code : Byte) (body : List Byte) :
    Framing.Statement (.frameRefused p code body) := fun _ =>
  ⟨Nat.le_of_ble_eq_true rfl, Nat.le_of_ble_eq_true rfl, by simp [Instr.requestCode, Instr.requestPort]⟩

theorem Framing.frameDiscarded (p : Port) :
    Framing.Statement (.frameDiscarded p) := fun _ =>
  ⟨Nat.le_of_ble_eq_true rfl, Nat.le_of_ble_eq_true rfl, by simp [Instr.requestCode, Instr.requestPort]⟩

theorem Framing.frameGapTimeout (p : Port) :
    Framing.Statement (.frameGapTimeout p) := fun _ =>
  ⟨Nat.le_of_ble_eq_true rfl, Nat.le_of_ble_eq_true rfl, by simp [Instr.requestCode, Instr.requestPort]⟩

theorem Framing.replySent (p : Port) :
    Framing.Statement (.replySent p) := fun _ =>
  ⟨Nat.le_of_ble_eq_true rfl, Nat.le_of_ble_eq_true rfl, by simp [Instr.requestCode, Instr.requestPort]⟩

theorem Framing.reset :
    Framing.Statement (.reset) := fun _ =>
  ⟨Nat.le_of_ble_eq_true rfl, Nat.le_of_ble_eq_true rfl, by simp [Instr.requestCode, Instr.requestPort]⟩

theorem Framing.startUp :
    Framing.Statement (.startUp) := fun _ =>
  ⟨Nat.le_of_ble_eq_true rfl, Nat.le_of_ble_eq_true rfl, by simp [Instr.requestCode, Instr.requestPort]⟩

theorem Framing.writeCompletion :
    Framing.Statement (.writeCompletion) := fun _ =>
  ⟨Nat.le_of_ble_eq_true rfl, Nat.le_of_ble_eq_true rfl, by simp [Instr.requestCode, Instr.requestPort]⟩

theorem Framing.emergencyStopAssert :
    Framing.Statement (.emergencyStopAssert) := fun _ =>
  ⟨Nat.le_of_ble_eq_true rfl, Nat.le_of_ble_eq_true rfl, by simp [Instr.requestCode, Instr.requestPort]⟩

theorem Framing.emergencyStopRelease :
    Framing.Statement (.emergencyStopRelease) := fun _ =>
  ⟨Nat.le_of_ble_eq_true rfl, Nat.le_of_ble_eq_true rfl, by simp [Instr.requestCode, Instr.requestPort]⟩

theorem Framing.driveFaultAssert (a : Axis) :
    Framing.Statement (.driveFaultAssert a) := fun _ =>
  ⟨Nat.le_of_ble_eq_true rfl, Nat.le_of_ble_eq_true rfl, by simp [Instr.requestCode, Instr.requestPort]⟩

theorem Framing.driveFaultRelease (a : Axis) :
    Framing.Statement (.driveFaultRelease a) := fun _ =>
  ⟨Nat.le_of_ble_eq_true rfl, Nat.le_of_ble_eq_true rfl, by simp [Instr.requestCode, Instr.requestPort]⟩

theorem Framing.positionArrival (a : Axis) (value : BitVec 32) :
    Framing.Statement (.positionArrival a value) := fun _ =>
  ⟨Nat.le_of_ble_eq_true rfl, Nat.le_of_ble_eq_true rfl, by simp [Instr.requestCode, Instr.requestPort]⟩

theorem Framing.classArrival (a : Axis) (c : SpeedClass) :
    Framing.Statement (.classArrival a c) := fun _ =>
  ⟨Nat.le_of_ble_eq_true rfl, Nat.le_of_ble_eq_true rfl, by simp [Instr.requestCode, Instr.requestPort]⟩

theorem Framing.classDeadlineExpiry (a : Axis) :
    Framing.Statement (.classDeadlineExpiry a) := fun _ =>
  ⟨Nat.le_of_ble_eq_true rfl, Nat.le_of_ble_eq_true rfl, by simp [Instr.requestCode, Instr.requestPort]⟩

theorem Framing.moveDeadlineExpiry (a : Axis) :
    Framing.Statement (.moveDeadlineExpiry a) := fun _ =>
  ⟨Nat.le_of_ble_eq_true rfl, Nat.le_of_ble_eq_true rfl, by simp [Instr.requestCode, Instr.requestPort]⟩

theorem Framing.beltConfirmChange (asserted : Bool) :
    Framing.Statement (.beltConfirmChange asserted) := fun _ =>
  ⟨Nat.le_of_ble_eq_true rfl, Nat.le_of_ble_eq_true rfl, by simp [Instr.requestCode, Instr.requestPort]⟩

theorem Framing.confirmDeadlineExpiry :
    Framing.Statement (.confirmDeadlineExpiry) := fun _ =>
  ⟨Nat.le_of_ble_eq_true rfl, Nat.le_of_ble_eq_true rfl, by simp [Instr.requestCode, Instr.requestPort]⟩

theorem Framing.beltPulse :
    Framing.Statement (.beltPulse) := fun _ =>
  ⟨Nat.le_of_ble_eq_true rfl, Nat.le_of_ble_eq_true rfl, by simp [Instr.requestCode, Instr.requestPort]⟩

theorem Framing.riverLevelArrival (value : BitVec 32) :
    Framing.Statement (.riverLevelArrival value) := fun _ =>
  ⟨Nat.le_of_ble_eq_true rfl, Nat.le_of_ble_eq_true rfl, by simp [Instr.requestCode, Instr.requestPort]⟩

theorem Framing.levelStale :
    Framing.Statement (.levelStale) := fun _ =>
  ⟨Nat.le_of_ble_eq_true rfl, Nat.le_of_ble_eq_true rfl, by simp [Instr.requestCode, Instr.requestPort]⟩

theorem Framing.dustSampleArrival (c : Channel) (value : BitVec 16) :
    Framing.Statement (.dustSampleArrival c value) := fun _ =>
  ⟨Nat.le_of_ble_eq_true rfl, Nat.le_of_ble_eq_true rfl, by simp [Instr.requestCode, Instr.requestPort]⟩

theorem Framing.dustStaleExpiry (c : Channel) :
    Framing.Statement (.dustStaleExpiry c) := fun _ =>
  ⟨Nat.le_of_ble_eq_true rfl, Nat.le_of_ble_eq_true rfl, by simp [Instr.requestCode, Instr.requestPort]⟩

theorem Framing.lockoutExpiry (h : HoldId) :
    Framing.Statement (.lockoutExpiry h) := fun _ =>
  ⟨Nat.le_of_ble_eq_true rfl, Nat.le_of_ble_eq_true rfl, by simp [Instr.requestCode, Instr.requestPort]⟩

theorem Framing.examination :
    Framing.Statement (.examination) := fun _ =>
  ⟨Nat.le_of_ble_eq_true rfl, Nat.le_of_ble_eq_true rfl, by simp [Instr.requestCode, Instr.requestPort]⟩

theorem Framing.byteArrival (p : Port) (b : Byte) :
    Framing.Statement (.byteArrival p b) := fun _ =>
  ⟨Nat.le_of_ble_eq_true rfl, Nat.le_of_ble_eq_true rfl, by simp [Instr.requestCode, Instr.requestPort]⟩

theorem Framing.framingError (p : Port) :
    Framing.Statement (.framingError p) := fun _ =>
  ⟨Nat.le_of_ble_eq_true rfl, Nat.le_of_ble_eq_true rfl, by simp [Instr.requestCode, Instr.requestPort]⟩

end Sys2Proof.Laws
end

