-- ==== Sys2Proof/Laws/Requests.lean ====
section
/-! SUPPORT. What `request`, `event` and `reply` do, said once: each case of the port unit's checks, and the bridge from an
operation's `Kept` to the state a command answers with. -/

set_option Elab.async false

namespace Sys2Proof.Machine

theorem replyCode_add (c : Byte) (h : c.toNat < 0x80) : replyCode c = c + 0x80 := by
  simp [replyCode, h]

theorem State.takes_not_full {s : State} {p : Port} (h : s.takes p) : s.portFull p = false := by
  simp [State.portFull, h.2]

/-- A request on a port that takes frames, well formed and permitted, is answered with what its owner makes of it. -/
theorem request_taken {i : Instr} {p : Port} {owner : State → Taken} {s : State} (h : s.takes p)
    (w : i.wellFormed = true) (a : permitted p i.requestCode = true) :
    request i p owner s =
      .next (reply p i.requestCode (owner (idlePort p s)).result (owner (idlePort p s)).items (owner (idlePort p s)).state) := by
  simp [request, h.1, State.takes_not_full h, w, a]

/-- A request of a port that may not send it is refused (R178). -/
theorem request_notPermitted {i : Instr} {p : Port} {owner : State → Taken} {s : State} (h : s.takes p)
    (w : i.wellFormed = true) (a : permitted p i.requestCode = false) :
    request i p owner s = .next (reply p i.requestCode .notPermitted [] (idlePort p s)) := by
  simp [request, h.1, State.takes_not_full h, w, a]

/-- While reset is asserted no request is taken (R184). -/
theorem request_inReset {i : Instr} {p : Port} {owner : State → Taken} {s : State} (h : s.inReset = true) :
    request i p owner s = .next s := by
  simp [request, h]

/-- While two replies wait a frame is discarded (R177). -/
theorem request_full {i : Instr} {p : Port} {owner : State → Taken} {s : State} (h : s.inReset = false)
    (f : s.portFull p = true) : request i p owner s = .next (idlePort p s) := by
  simp [request, h, f]

theorem event_taken {f : State → State} {s : State} (h : s.inReset = false) : event f s = .next (f s) := by
  simp [event, h]

theorem event_inReset {f : State → State} {s : State} (h : s.inReset = true) : event f s = .next s := by
  simp [event, h]

/-- A request answers a next state whatever the state. -/
theorem request_next (i : Instr) (p : Port) (owner : State → Taken) (s : State) :
    ∃ t, request i p owner s = .next t := ⟨_, rfl⟩

theorem event_next (f : State → State) (s : State) : ∃ t, event f s = .next t := ⟨_, rfl⟩

theorem idlePort_kept_ports (p : Port) (s : State) : (idlePort p s).ports = s.ports.set p { s.port p with rx := .idle } := rfl

/-- A reply after an idled port is the answer on the state before. -/
theorem reply_idlePort (p : Port) (c : Byte) (r : Result) (items : List Byte) (s : State) (h : c.toNat < 0x80) :
    reply p c r items (idlePort p s) = s.answered p c r items := by
  simp only [reply, idlePort, State.answered, replyCode_add c h, State.setPort_setPort, State.port_setPort, if_true]

/-- The receive condition of a port put back. -/
def restoreRx (p : Port) (x v : State) : State := v.setPort p { v.port p with rx := (x.port p).rx }

theorem restoreRx_answered (p : Port) (c : Byte) (r : Result) (items : List Byte) (x v : State) (h : c.toNat < 0x80)
    (k : (v.port p).rx = .idle) : reply p c r items v = (restoreRx p x v).answered p c r items := by
  simp only [reply, restoreRx, State.answered, replyCode_add c h, State.setPort_setPort, State.port_setPort, if_true]
  congr 1
  rcases hv : v.port p with ⟨a, b, d, e, f, g, i, j⟩
  rw [hv] at k
  simp only at k
  subst k
  rfl

theorem Signalled.port {v w : PerPort PortRec} (h : Signalled v w) (p : Port) :
    w.get p = v.get p ∨ ∃ f, w.get p = (v.get p).withFlags ((v.get p).flags ||| f) := by
  rcases h with rfl | ⟨f, rfl⟩
  · exact .inl rfl
  · exact .inr ⟨f, by rw [PerPort.get_map]⟩

theorem Signalled.restore {v w : PerPort PortRec} (p : Port) (h : Signalled (v.set p { v.get p with rx := .idle }) w) :
    Signalled v (w.set p { w.get p with rx := (v.get p).rx }) := by
  rcases h with rfl | ⟨f, rfl⟩
  · left; cases p <;> rfl
  · right; exact ⟨f, by cases p <;> rfl⟩

/-- An operation that keeps what `Kept` lists, run at an idled port and answered there, is that operation's result on the state
before, answered. -/
theorem reply_of_kept {x v : State} {p : Port} (c : Byte) (r : Result) (items : List Byte) (h : c.toNat < 0x80)
    (k : Kept (idlePort p x) v) :
    Kept x (restoreRx p x v) ∧ reply p c r items v = (restoreRx p x v).answered p c r items := by
  refine ⟨⟨k.1, k.2, k.3, k.4, k.5, k.6, k.7, k.8, k.9, k.10, k.11, k.12, k.13, k.14, k.15, k.16, k.17, k.18, k.19, k.hold,
    k.order, k.axis, ?_⟩, ?_⟩
  · exact Signalled.restore p k.ports
  · refine restoreRx_answered p c r items x v h ?_
    rcases k.ports.port p with e | ⟨f, e⟩
    · have e' : v.port p = (idlePort p x).port p := e
      rw [e']; simp [idlePort]
    · have e' : v.port p = ((idlePort p x).port p).withFlags (((idlePort p x).port p).flags ||| f) := e
      rw [e']; simp [idlePort, PortRec.withFlags, PortRec.refresh]

end Sys2Proof.Machine
end

