-- ==== Sys2Proof/Tests/Slice0.lean ====
section
/-! SUPPORT. Tests: ill-formed commands refused, frames written out by hand, the worked cases of the manual, one small step of many
commands, and for every obligation with hypotheses a theorem that shows states and operands which meet them. -/

set_option Elab.async false

namespace Sys2Proof.Tests

open Sys2Proof Sys2Proof.Machine

/-! ### States the tests start from -/

/-- The state a command answers with. -/
def after (c : Instr) (s : State) : State :=
  match exec c s with
  | .next t => t
  | .fault _ => s
  | .refused _ => s

/-- The reply that waits on a port after a command on a port where none waited: its result code and its items. -/
def answerOf (p : Port) (s : State) : List (Result × List Byte) := (s.port p).waiting.map fun r => (r.result, r.items)

/-- The hatch of the hold table's example figures: 20 m long, 14 m wide, coaming 150 cm, grade key 10H under mask F0H. -/
def hatch : HoldGeom := ⟨-1000, 1000, 200, 1600, 150, 0x10, 0xF0⟩

/-- A declared hold with room for 500,000 kg and a freeboard report. -/
def bay : Hold := ⟨true, hatch, none, true, 500000, 0, 0, some 800, none⟩

/-- An OPEN lot whose grade passes that hold's test. -/
def wheat : Lot := ⟨.opened, 301, 12, 0x14, some 60000, 0, 0, 0, none, none, [], false⟩

/-- A READY order of 40,000 kg of that lot for hold 1, at the middle of the hatch. -/
def load : Order := ⟨.ready, 301, some 0, 40000, 0, 0, 0, 0, some (.mid, .centre), false, true, 2, 2, none, none⟩

/-- Pass 1 visits hold 1. -/
def plan : Passes :=
  let v : Vector (List HoldId) 12 := (Vector.replicate 12 []).set 0 [0]
  ⟨v, v, false⟩

/-- A vessel with one hold, one lot, one order on its queue, and the spout standing over the hatch. -/
def berth : State := { State.reset with
  ship := ⟨0, .bowPositive, none, none, 0, 7⟩
  holds := State.reset.holds.set 0 bay
  lots := State.reset.lots.set 0 wheat
  orders := State.reset.orders.set 0 load
  queues := State.reset.queues.set 0 [0]
  passes := plan
  axes.gantry.position := some 0
  axes.reach.position := some 900
  axes.spout.position := some 1500
  axes.spout.confirmed := .stop }

/-- The berth with its scheduler in another state. -/
def inState (st : SchedState) : State := { berth with sched.state := st }

/-- The berth with the pour of its order in progress. -/
def pouring (st : SchedState) : State := { berth with
  sched.state := st
  sched.active := some 0
  orders := berth.orders.set 0 { load with state := .active }
  belt.lastHold := some 0 }

/-- A pour under way on a running belt with a scale ready. -/
def feeding : State := { pouring .pouring with
  pour.runLine := true
  pour.supervision := .running
  inputs.beltConfirm := true
  weigh.ready := true }

/-- A record of the order's material at the head of the belt, stamped at a counter value. -/
def onBelt (n : Nat) (stamp : BitVec 32) : Transit := ⟨n, 301, 0, 20000, false, stamp⟩

/-- The grant of a batch to the order. -/
def granted (n : Nat) : Grant := ⟨n, 0, 301, 0, 20000, false⟩

/-- Out of reset with no reply waiting, every port takes a frame. -/
theorem takes_of {s : State} (r : s.inReset = false) (w : ∀ p, (s.port p).waiting = []) (p : Port) : s.takes p :=
  ⟨r, by rw [w p]; decide⟩

/-! ### Ill-formed commands (WellFormed) -/

theorem test_illformed_refused :
    (Instr.reportDraft .ship (List.replicate 83 (1, 0))).wellFormed = false ∧
      (Instr.suspend .ship (List.replicate 249 1)).wellFormed = false ∧
      (Instr.setPass .station 1 (List.replicate 248 1)).wellFormed = false ∧
      (Instr.writeSetting .station 26 none 0).wellFormed = false ∧
      (Instr.readSetting .station 1 (some 0)).wellFormed = false ∧
      (Instr.frameRefused .cab 1 (List.replicate 250 0)).wellFormed = false := by decide +kernel

theorem test_illformed_badField :
    answerOf .ship (after (.suspend .ship (List.replicate 249 1)) berth) = [(.badField, [])] ∧
      answerOf .station (after (.writeSetting .station 26 none 5) berth) = [(.badField, [])] := by decide +kernel

/-! ### Frames and requests written out by hand (R174, R175) -/

theorem test_decode_vesselOpen : decodeRequest .station 0x01 [0x12, 0x34] = some (.vesselOpen .station 0x1234) := by decide +kernel
theorem test_decode_declareHold :
    decodeRequest .station 0x03
        [0x02, 0xFC, 0x18, 0x03, 0xE8, 0x00, 0xC8, 0x06, 0x40, 0x00, 0x96, 0x10, 0xF0] =
      some (.declareHold .station 2 (BitVec.ofInt 16 (-1000)) 1000 200 1600 150 0x10 0xF0) := by decide +kernel
theorem test_decode_addOrder :
    decodeRequest .station 0x09 [0x01, 0x2D, 0x05, 0x00, 0x00, 0xAF, 0xC8, 0x01, 0x02, 0x00, 0x01, 0x03] =
      some (.addOrder .station 301 5 45000 1 2 0 1 3) := by decide +kernel
theorem test_decode_suspend : decodeRequest .ship 0x20 [0x02, 0x01, 0x08] = some (.suspend .ship [1, 8]) := by decide +kernel
theorem test_decode_jog :
    decodeRequest .cab 0x19 [0x02, 0xFF, 0xFF, 0xFF, 0x9C] = some (.jog .cab 2 (BitVec.ofInt 32 (-100))) := by decide +kernel
theorem test_decode_batchReport :
    decodeRequest .scale 0x25 [0x00, 0x07, 0x00, 0x16, 0x9E, 0xA2, 0x00, 0x00, 0xF2, 0xA6, 0x01] =
      some (.batchReport .scale 7 1482402 62118 1) := by decide +kernel
theorem test_decode_writeSetting :
    decodeRequest .station 0x10 [0x22, 0x03, 0x00, 0x00, 0x25, 0x80] = some (.writeSetting .station 34 (some 3) 9600) := by
  decide +kernel
theorem test_decode_short_body : decodeRequest .cab 0x19 [0x02, 0xFF, 0xFF, 0x9C] = none := by decide +kernel
theorem test_decode_no_request : decodeRequest .cab 0x2F [] = none ∧ decodeRequest .cab 0x00 [] = none := by decide +kernel

/-- CRC-16 of the nine ASCII digits is 29B1H for the parameters of R174. -/
theorem test_crc : crc [0x31, 0x32, 0x33, 0x34, 0x35, 0x36, 0x37, 0x38, 0x39] = 0x29B1 := by decide +kernel

/-! ### The worked cases of the manual -/

/-- Sections 7.7 and 7.8: the conversion of the report and of reports A to D. -/
theorem test_net_worked :
    Settings.default.netCharged 1482350 62118 = 20000 ∧ Settings.default.netCharged 1483000 62300 = 20010 ∧
      Settings.default.netCharged 40000 62118 = 0 ∧ Settings.default.netCharged 1850000 300000 = 21830 ∧
      Settings.default.netOf 1900000 60000 = 25910 ∧ Settings.default.netCharged 1900000 60000 = 25000 ∧
      Settings.default.reasonsOf 1850000 300000 true = ⟨false, true, false, true, false⟩ ∧
      Settings.default.reasonsOf 1900000 60000 false = ⟨false, true, true, false, false⟩ := by decide +kernel

/-- A permitted poll of the grant sizing case (section 7.3): hold 5, the order's target, the hold's limit, HEAD in WARN or not. -/
def poll (target room : Nat) (choked : Bool) : State := { feeding with
  holds := feeding.holds.set 0 { bay with limit := room }
  orders := feeding.orders.set 0 { load with state := .active, target := target }
  dust.channels.head.state := if choked then .warn else .normal }

/-- Section 7.3: polls 1 to 6. -/
theorem test_grant_sizes :
    (poll 45000 310000 false).grantSize 0 0 = 20000 ∧ (poll 25000 290000 true).grantSize 0 0 = 10000 ∧
      (poll 7305 280000 false).grantSize 0 0 = 7300 ∧ (poll 9000 6987 false).grantSize 0 0 = 6980 ∧
      (poll 480 250000 false).grantSize 0 0 = 480 ∧ (poll 3000 420 false).grantSize 0 0 = 420 := by decide +kernel

/-- Section 7.3, polls 5 and 6: the causes COMPLETE and TOPPED, here with a record on the belt so that the pour drains. -/
theorem test_polls_end :
    (after (.nextBatch .scale) { poll 20480 250000 false with
        orders := feeding.orders.set 0 { load with state := .active, target := 20480, inTransit := 20000 }
        belt.records := [onBelt 1 0] }).pour.endCause = some .complete ∧
      (after (.nextBatch .scale) { poll 3000 20420 false with belt.records := [onBelt 1 0] }).pour.endCause =
        some .topped := by decide +kernel

/-- The ship of sections 6.9 and 6.10, with GANTRY, REACH and SPOUT at the start of the travel of section 5.3. -/
def quay (river : Nat) : State := { berth with
  ship := ⟨3500, .bowPositive, none, some 14500, 0, 7⟩
  river := ⟨river, 0, false⟩
  holds := ((State.reset.holds.set 1 ⟨true, ⟨2300, 3900, 250, 1850, 150, 0, 0⟩, none, true, 9000000, 0, 0, some 560, none⟩).set 2
      ⟨true, ⟨4200, 5800, 250, 1850, 150, 0, 0⟩, none, true, 9000000, 1232000, 0, some 610, none⟩).set 3
      ⟨true, ⟨6100, 7700, 250, 1850, 200, 0, 0⟩, none, true, 9000000, 0, 0, some 690, none⟩
  orders := State.reset.orders.set 0 { load with hold := some 2 }
  queues := State.reset.queues.set 2 [0]
  passes := ⟨plan.inEffect.set 0 [2], plan.inEffect.set 0 [2], false⟩
  axes.gantry.position := some 2400
  axes.reach.position := some 400
  axes.spout.position := some 1200 }

/-- Section 6.9: sinkage, freeboard, elevations, heights, and the river at which the travel turns infeasible. -/
theorem test_heights :
    (quay 1184).sinkage = 84 ∧ (quay 1184).freeboard 2 = 526 ∧ (quay 1184).deck 2 = 1710 ∧ (quay 1184).top 2 = 1860 ∧
      (quay 1184).pourHeight 2 = 1610 ∧
      ({ quay 1184 with dust.channels.head.state := .warn } : State).pourHeight 2 = 1530 ∧
      (quay 1800).travelHeight (-1500, 2400) = 2596 ∧ (quay 1800).feasible (-1500, 2400) = true ∧
      (quay 1805).feasible (-1500, 2400) = false := by decide +kernel

/-- Section 6.10: spots and travel heights along the quay. -/
theorem test_travel_heights :
    (quay 1184).spotX 3 .mid = -3400 ∧ (quay 1184).spotX 2 .mid = -1500 ∧ (quay 1184).spotY 2 .centre = 1050 ∧
      (quay 1184).travelHeight (-1500, 2400) = 1980 ∧ (quay 1184).travelHeight (-3400, -1500) = 2110 ∧
      (quay 1184).travelHeight (-740, -740) = 1980 ∧ (quay 1184).travelHeight (-500, -500) = 2200 ∧
      (quay 1184).travelHeight (3000, 5000) = 2200 ∧ (quay 1184).travelHeight (-20000, 20000) = 2110 := by decide +kernel

/-- Section 5.3: the activation starts RAISE at 1,980 cm, the SPOUT moving FAST to 1,985 cm. -/
theorem test_examination_activates :
    let t := after .examination { quay 1184 with sched.state := .seeking }
    t.sched.state = .travelling ∧ t.sched.active = some 0 ∧ (t.order 0).state = .active ∧ t.spout.phase = .raise ∧
      t.spout.height = some 1980 ∧ t.axes.spout.target = some 1985 ∧ t.axes.spout.commanded = .fast ∧
      t.belt.lastHold = some 2 := by decide +kernel

/-- The travel of section 5.3 in a phase, the SPOUT on its way to a target. -/
def travel (ph : Phase) (goal : Int) : State := { quay 1184 with
  sched.state := .travelling
  sched.active := some 0
  orders := (quay 1184).orders.set 0 { load with hold := some 2, state := .active }
  spout := ⟨false, ph, some .inProgress, some 1980, some (-1500), some 1050⟩
  axes.spout := ⟨.moving, some 1500, some goal, some .graded, .fast, .fast, none, some 120000, none⟩ }

/-- Section 5.3: the SPOUT INPOS at 1,983 cm completes RAISE, and GANTRY and REACH start FAST for the spot. -/
theorem test_raise_completes :
    let t := after (.positionArrival .spout 1983) (travel .raise 1985)
    t.axes.spout.state = .inpos ∧ t.spout.phase = .traverse ∧ t.axes.gantry.target = some (-1500) ∧
      t.axes.gantry.commanded = .fast ∧ t.axes.reach.target = some 1050 ∧ t.axes.reach.state = .moving := by decide +kernel

/-- Section 5.3: the SPOUT INPOS at 1,612 cm ends LOWER, and the pour starts with its run line asserted. -/
theorem test_lower_completes :
    let t := after (.positionArrival .spout 1612) { travel .lower 1610 with
      axes.gantry.position := some (-1497), axes.reach.position := some 1052 }
    t.sched.state = .pouring ∧ t.spout.phase = .none ∧ t.pour.runLine = true ∧ t.pour.supervision = .starting := by
  decide +kernel

/-- The spout of section 5.5's jog case over hold 3, at a SPOUT height. -/
def jogging (x y z : Int) : State := { quay 1184 with
  spout.manual := true
  pour.reasons.manual := true
  axes := ⟨⟨.inpos, some x, some (-1500), some .graded, .stop, .stop, none, none, none⟩,
    ⟨.inpos, some y, some 1050, some .graded, .stop, .stop, none, none, none⟩,
    ⟨.inpos, some z, some 1610, some .graded, .stop, .stop, none, none, none⟩⟩ }

/-- Section 5.5: steps 2 and 4 of the jog case, GANTRY clamped to -740 cm and REACH to 1,810 cm. -/
theorem test_jog_clamped :
    (after (.jog .cab 0 1000) (jogging (-1497) 1052 1612)).axes.gantry.target = some (-740) ∧
      (after (.jog .cab 1 900) (jogging (-740) 1052 1212)).axes.reach.target = some 1810 ∧
      (after (.jog .cab 2 (BitVec.ofInt 32 (-400))) (jogging (-740) 1052 1612)).axes.spout.target = some 1212 := by
  decide +kernel

/-- The belt of section 8.8 at step 5: record A due, order 23 (here slot 2) pouring into hold 5, records of order 21 (slot 1). -/
def carryOver : State := { State.reset with
  ship.vessel := 7
  holds := (State.reset.holds.set 1 { bay with loaded := 412000, limit := 900000 }).set 4 { bay with loaded := 95000, limit := 900000 }
  lots := (State.reset.lots.set 0 { wheat with number := 410, allocs := [(1, 412000)] }).set 1 { wheat with number := 411 }
  orders := (State.reset.orders.set 1 { load with lot := 410, hold := some 1, inTransit := 39990 }).set 2
    { load with state := .active, lot := 411, hold := some 4, target := 100000, granted := 20000 }
  queues := (State.reset.queues.set 1 [1]).set 4 [2]
  sched.state := .pouring
  sched.active := some 2
  pour.runLine := true
  pour.supervision := .running
  inputs.beltConfirm := true
  weigh := ⟨true, some ⟨5203, 2, 411, 4, 20000, false⟩, 5204, none⟩
  belt := ⟨[⟨5201, 410, 1, 20000, false, 1000000⟩, ⟨5202, 410, 1, 19990, false, 1009000⟩], 1017990, some 4, none⟩
  axes.gantry.position := some 0
  axes.reach.position := some 900
  axes.spout.position := some 1500 }

/-- Section 8.8, step 5. -/
theorem test_carry_over :
    let t := after .beltPulse carryOver
    t.belt.records.length = 1 ∧ (t.hold 4).loaded = 115000 ∧ t.committed 1 = 431990 ∧
      (t.lot 0).allocs = [(1, 412000), (4, 20000)] ∧ (t.order 1).inTransit = 19990 ∧ (t.order 2).carriedIn = 20000 := by
  decide +kernel

/-- Section 8.8, step 1: closing the hatch of the active order's hold ends its pour with YIELD. -/
theorem test_closeHatch_yields :
    let t := after (.closeHatch .ship 1) { feeding with belt.records := [onBelt 1 0] }
    t.sched.active = none ∧ (t.order 0).state = .ready ∧ (t.order 0).lastEnd = some .yield ∧ t.belt.records = [onBelt 1 0] ∧
      t.pour.runLine = false := by decide +kernel

/-- Section 2.6, steps 10 and 11: the last retry stalls the order with ORDER_END, and a rearm makes it READY. -/
theorem test_stall_and_rearm :
    let t := after (.driveFaultAssert .gantry) { feeding with
      orders := feeding.orders.set 0 { load with state := .active, retriesLeft := 1, notify := false } }
    (t.order 0).state = .stalled ∧ (t.order 0).retriesLeft = 0 ∧ t.lastEnded = some 0 ∧ t.sched.state = .halted ∧
      (t.port .station).flags &&& 0x0002 = 0x0002 ∧
      (after (.rearmOrder .station 1) { berth with
        orders := berth.orders.set 0 { load with state := .stalled, retriesLeft := 0 } }).order 0 = load := by decide +kernel

/-- Section 1.8: step 3 of the stack case, and the lockout that expires while its hold stays suspended raises nothing. -/
theorem test_suspend_and_lockout :
    let t := after (.lockoutExpiry 4) { berth with
      suspension := ⟨0x1A, [0x12, 0]⟩, holds := berth.holds.set 4 { bay with lockout := some 300000 } }
    (after (.suspend .ship [4]) { berth with suspension := ⟨0x12, [0]⟩ }).suspension = ⟨0x1A, [0x12, 0]⟩ ∧
      (t.hold 4).lockout = none ∧ t.now = 300000 ∧ (t.port .ship).flags = 0 := by decide +kernel

/-- Section 9.4's sequence: the third sample at or above stop_on takes HEAD from WARN to STOP, locks out the hold and ends the pour;
one down sample of five keeps STOP. -/
theorem test_head_lockout :
    let t := after (.dustSampleArrival .head 365) { feeding with dust.channels.head := ⟨.warn, 2, 0, 340, none, none, none⟩ }
    (t.channel .head).state = .stop ∧ (t.hold 0).lockout = some 300000 ∧ (t.order 0).state = .ready ∧
      t.dust.hornOn = true ∧ t.dust.beacon = true ∧
      (after (.dustSampleArrival .head 180) { berth with
        dust.channels.head := ⟨.stop, 0, 0, 365, none, none, none⟩ }).dust.channels.head.down = 1 := by decide +kernel

/-- The close of section 10.6's case: a lot with records on the belt closes undrained. A lot with no material is drained and billed. -/
theorem test_lots_close :
    answerOf .station (after (.closeLot .station 410) { carryOver with orders := State.reset.orders }) =
        [(.done, [0, 0])] ∧
      answerOf .station (after (.closeLot .station 301) { berth with orders := State.reset.orders }) = [(.done, [1, 1])] := by
  decide +kernel

/-- R183 and its relation of B_nom and CAP_KG: 25,000 is taken, 25,001 is not, and nothing is while a vessel is open. -/
theorem test_writeSetting :
    answerOf .station (after (.writeSetting .station 17 none 25000) State.reset) = [(.done, [0, 0, 0x61, 0xA8])] ∧
      answerOf .station (after (.writeSetting .station 17 none 25001) State.reset) = [(.badField, [])] ∧
      answerOf .station (after (.writeSetting .station 17 none 25000) berth) = [(.state, [])] := by decide +kernel

/-! ### The hypotheses of the obligations are met

For each obligation with hypotheses, states and operands that meet them, clause by clause, at a boundary where a clause has one. -/

theorem meets_StepTakesFrontCommand : State.reset.pending = [] := rfl

theorem meets_RequestsRoundTrip :
    (Instr.reportDraft .ship (List.replicate 82 (1, 0))).wellFormed = true ∧
      (Instr.reportDraft .ship (List.replicate 82 (1, 0))).requestPort = some .ship := by decide +kernel

theorem meets_BodiesReadExactly :
    (List.replicate 249 (0xFF : Byte)).length ≤ 249 ∧ decodeRequest .station 0x01 [0, 7] = some (.vesselOpen .station 7) := by
  decide +kernel

/-- A port in the middle of a frame. -/
def gathering (got : List Byte) (last : Time) : State := { berth with now := 20, ports.cab.rx := .inFrame got last }

theorem meets_BytesSpellRequests :
    (Instr.readEvents .cab).wellFormed = true ∧ (Instr.readEvents .cab).requestPort = some .cab ∧ berth.inReset = false ∧
      (berth.port .cab).rx = .idle := by decide +kernel

theorem meets_BytesReceived :
    (berth.inReset = false ∧ (berth.port .cab).rx = .idle ∧ (0xA4 : Byte) ≠ 0xA5) ∧
      ((gathering [] 0).inReset = false ∧ ((gathering [] 0).port .cab).rx = .inFrame [] 0 ∧ (gathering [] 0).now ≤ 0 + 20) ∧
      (((gathering [1, 0x2D] 0).port .cab).rx = .inFrame [1, 0x2D] 0 ∧ [(0x2D : Byte)].length + 1 < (1 : Byte).toNat + 2) ∧
      (((gathering [1, 0x2D, 9] 0).port .cab).rx = .inFrame [1, 0x2D, 9] 0 ∧
        [(0x2D : Byte), 9].length + 1 = (1 : Byte).toNat + 2 ∧
        ([(0x2D : Byte), 9] ++ [9]).drop 1 ≠ bytes16 (crc (1 :: ([(0x2D : Byte), 9] ++ [9]).take 1))) ∧
      (((gathering [1, 0x2D, 219] 0).port .cab).rx = .inFrame (1 :: 0x2D :: [219]) 0 ∧ [(219 : Byte)].length = (1 : Byte).toNat ∧
        ((0x2D :: [219]) ++ [241]).drop (1 : Byte).toNat = bytes16 (crc (1 :: ((0x2D :: [219]) ++ [241]).take 1))) ∧
      ({ gathering [1] 0 with now := 21 }.port .cab).rx = .inFrame [1] 0 ∧ (0 : Time) + 20 < 21 := by decide +kernel

theorem meets_FramesRefused :
    (berth.takes .cab ∧ [(2 : Byte), 0].length ≤ 249 ∧ (0x19 : Byte).toNat < 0x80 ∧ decodeRequest .cab 0x19 [2, 0] = none) ∧
      0x2E < (0x2F : Byte).toNat ∧ 0x80 ≤ (0x80 : Byte).toNat ∧ (Instr.start .cab).wellFormed = true ∧ (Instr.start .cab).requestPort = some .cab := by
  unfold State.takes; decide +kernel

/-- A port on which replies wait. -/
def waiting (n : Nat) : State := { berth with ports.cab.waiting := List.replicate n ⟨0x92, .done, []⟩ }

theorem meets_FramesTurnedAway :
    ((Instr.start .ship).requestPort = some .ship ∧ berth.inReset = false ∧ (Instr.start .ship).wellFormed = true ∧
      (berth.port .ship).waiting.length < 2 ∧ Port.ship ∉ (Instr.start .ship).senders) ∧
      (Instr.start .cab).requestPort = some .cab ∧ 2 ≤ ((waiting 2).port .cab).waiting.length := by decide +kernel

theorem meets_RepliesSent :
    (berth.inReset = false ∧ (berth.port .cab).waiting = []) ∧
      (((waiting 1).port .cab).waiting = [⟨0x92, .done, []⟩] ∧ ((waiting 1).port .cab).rateChanges = []) ∧
      ({ waiting 1 with ports.cab.rateChanges := [(9600, 1)] }.port .cab).rateChanges = [(9600, 1)] ∧
      ({ waiting 1 with ports.cab.rateChanges := [(9600, 2)] }.port .cab).rateChanges = [(9600, 0 + 2)] ∧
      ({ waiting 2 with ports.cab.rateChanges := [(9600, 1), (19200, 2)] }.port .cab).rateChanges = [(9600, 1), (19200, 0 + 2)] ∧
      ({ waiting 2 with ports.cab.rateChanges := [(9600, 2), (19200, 2)] }.port .cab).rateChanges =
        [(9600, 0 + 2), (19200, 0 + 2)] ∧
      ({ waiting 1 with ports.cab.rateChanges := [(9600, 1), (19200, 1)] }.port .cab).rateChanges = [(9600, 1), (19200, 1)] := by
  decide +kernel

theorem meets_EventsReadAndEnabled :
    berth.takes .scale ∧ (0x07FF : BitVec 16).toNat < 2048 ∧ 2048 ≤ (0x0800 : BitVec 16).toNat := by
  unfold State.takes; decide +kernel

theorem meets_ResetHoldsOutputs :
    { berth with inReset := true }.inReset = true ∧ Instr.beltPulse ≠ .reset ∧ Instr.beltPulse ≠ .startUp ∧
      Instr.beltPulse ≠ .emergencyStopAssert ∧ Instr.beltPulse ≠ .emergencyStopRelease ∧
      (∀ a, Instr.beltPulse ≠ .driveFaultAssert a ∧ Instr.beltPulse ≠ .driveFaultRelease a) ∧
      ∀ b, Instr.beltPulse ≠ .beltConfirmChange b :=
  ⟨rfl, by decide, by decide, by decide, by decide, fun _ => ⟨nofun, nofun⟩, nofun⟩

/-! The laws hold of a pour under way with commands that disturb it in front. -/

/-- The settings at their defaults are in their ranges. -/
theorem default_inRange (n : SettingName) : Settings.default.allows n (Settings.default.value n) = true := by
  cases n with
  | lower a | upper a | timeout a => cases a <;> decide +kernel
  | warnOn c | warnOff c | stopOn c | stopOff c | upCount c | downCount c | critical c => cases c <;> decide +kernel
  | rate p => cases p <;> decide +kernel
  | _ => decide +kernel

theorem settingsLaw_of {s : State} (u : s.settings = Settings.default) (i : s.store.image = Settings.default)
    (c : s.store.copying = none) : SettingsLaw s := by
  rintro v (h | h | h) n
  · rw [h, u]; exact default_inRange n
  · rw [h, i]; exact default_inRange n
  · rw [c] at h; cases h

theorem meets_StoresLawsKept :
    SuspensionLaw { feeding with suspension := ⟨0x1A, [0x12, 0]⟩, pending := [.resume .ship] } ∧
      (∃ t, step { feeding with suspension := ⟨0x1A, [0x12, 0]⟩, pending := [.resume .ship] } = .next t) ∧
      BeltLaw { feeding with pending := [.nextBatch .scale] } ∧ BatchLaw { feeding with pending := [.nextBatch .scale] } ∧
      BillLaw { feeding with pending := [.nextBatch .scale] } ∧ SettingsLaw { feeding with pending := [.nextBatch .scale] } ∧
      PassesLaw { feeding with pending := [.nextBatch .scale] } ∧
      ∃ t, step { feeding with pending := [.nextBatch .scale] } = .next t :=
  ⟨⟨by decide, by decide, by decide, trivial⟩, ⟨_, rfl⟩, by unfold BeltLaw; decide +kernel,
    by unfold BatchLaw; decide +kernel, by unfold BillLaw; decide +kernel, settingsLaw_of rfl rfl rfl,
    by unfold PassesLaw; decide +kernel, _, rfl⟩

theorem meets_PortsLawKept :
    PortsLaw { feeding with pending := [.readEvents .cab] } ∧
      ∃ t, step { feeding with pending := [.readEvents .cab] } = .next t :=
  ⟨fun p => by cases p <;> (unfold PortLaw; decide +kernel), _, rfl⟩

theorem meets_BeaconLawKept :
    BeaconLaw { feeding with pending := [.dustSampleArrival .head 9999] } ∧
      ∃ t, step { feeding with pending := [.dustSampleArrival .head 9999] } = .next t :=
  ⟨by unfold BeaconLaw; decide +kernel, _, rfl⟩

/-- The pour under way with a closing hatch in front. -/
def disturbed : State := { feeding with pending := [.closeHatch .ship 1] }

theorem disturbed_active : ActiveLaw disturbed := by unfold ActiveLaw; decide +kernel

theorem meets_ActiveLawKept : ActiveLaw disturbed ∧ RunLineLaw disturbed ∧ ∃ t, step disturbed = .next t :=
  ⟨disturbed_active, by unfold RunLineLaw; decide +kernel, _, rfl⟩

theorem disturbed_pause : PauseLaw disturbed := by
  refine ⟨rfl, fun _ => ⟨fun h => absurd h (by decide), ?_⟩, by decide +kernel, by decide +kernel, by decide +kernel,
    by decide +kernel, by decide +kernel⟩
  rintro ⟨c, -, h⟩; cases c <;> exact absurd h (by decide +kernel)

theorem meets_PauseLawKept : ActiveLaw disturbed ∧ PauseLaw disturbed ∧ ∃ t, step disturbed = .next t :=
  ⟨disturbed_active, disturbed_pause, _, rfl⟩

theorem meets_AxesLawKept : AxesLaw disturbed ∧ ∃ t, step disturbed = .next t :=
  ⟨fun a => by cases a <;> (unfold AxisRec.Law; decide +kernel), _, rfl⟩

theorem meets_TraverseLawKept :
    ActiveLaw disturbed ∧ PauseLaw disturbed ∧ TraverseLaw disturbed ∧ ∃ t, step disturbed = .next t :=
  ⟨disturbed_active, disturbed_pause, ⟨nofun, fun _ h => by revert h; decide +kernel⟩, _, rfl⟩

/-- The pour under way with a record of its order at the head of the belt, a grant to it outstanding and 12 t delivered, a belt
pulse in front. -/
def carrying : State := { feeding with
  belt.records := [onBelt 1 0]
  belt.counter := 0xFFFFFFF0
  weigh.grant := some (granted 2)
  weigh.nextBatch := 3
  holds := feeding.holds.set 0 { bay with loaded := 12000 }
  lots := feeding.lots.set 0 { wheat with weighed := 32000, count := 1, first := some 1, last := some 1, allocs := [(0, 12000)] }
  orders := feeding.orders.set 0 { load with state := .active, delivered := 12000, inTransit := 20000, granted := 20000 }
  pending := [.beltPulse] }

theorem carrying_active : ActiveLaw carrying := by unfold ActiveLaw; decide +kernel

theorem carrying_transit : TransitLaw carrying := by
  refine ⟨by decide +kernel, by decide +kernel, ?_, by decide +kernel, by decide +kernel⟩
  rintro g ⟨⟩; decide +kernel

theorem meets_TransitLawKept :
    ActiveLaw carrying ∧ SettingsLaw carrying ∧ TransitLaw carrying ∧ ∃ t, step carrying = .next t :=
  ⟨carrying_active, settingsLaw_of rfl rfl rfl, carrying_transit, _, rfl⟩

theorem carrying_accounts : AccountsLaw carrying := by
  have a : carrying.Chargeable 301 := ⟨0, by decide +kernel, by decide +kernel⟩
  refine ⟨by decide +kernel, ?_, ?_, by decide +kernel, by decide +kernel, by decide +kernel, by decide, fun n => ⟨nofun, ?_⟩⟩
  · intro r h; rw [List.mem_singleton.mp h]; exact a
  · rintro g ⟨⟩; exact a
  · rintro ⟨l, h, -⟩; exact absurd h (by revert l; decide +kernel)

theorem carrying_grade : GradeLaw carrying := by
  refine ⟨?_, by decide +kernel, by decide +kernel⟩
  rintro o h ⟨⟩ ⟨⟩ -
  exact ⟨by decide +kernel, by decide +kernel, by rintro g ⟨⟩; decide +kernel⟩

theorem meets_ExclusionLawKept :
    (ActiveLaw disturbed ∧ QueueLaw disturbed ∧ ExclusionLaw disturbed ∧ ∃ t, step disturbed = .next t) ∧
      ActiveLaw carrying ∧ RunLineLaw carrying ∧ QueueLaw carrying ∧ AccountsLaw carrying ∧ ReceivingLaw carrying ∧
      GradeLaw carrying ∧ ∃ t, step carrying = .next t :=
  ⟨⟨disturbed_active, by unfold QueueLaw; decide +kernel, by unfold ExclusionLaw; decide +kernel, _, rfl⟩, carrying_active,
    by unfold RunLineLaw; decide +kernel, by unfold QueueLaw; decide +kernel, carrying_accounts,
    by unfold ReceivingLaw; decide +kernel, carrying_grade, _, rfl⟩

theorem meets_MassBalanceKept :
    ActiveLaw carrying ∧ RunLineLaw carrying ∧ QueueLaw carrying ∧ TransitLaw carrying ∧ AccountsLaw carrying ∧
      ReceivingLaw carrying ∧ BalanceLaw carrying ∧ SettingsLaw carrying ∧ HeadroomLaw carrying ∧
      ∃ t, step carrying = .next t :=
  ⟨carrying_active, by unfold RunLineLaw; decide +kernel, by unfold QueueLaw; decide +kernel, carrying_transit,
    carrying_accounts, by unfold ReceivingLaw; decide +kernel, by unfold BalanceLaw; decide +kernel,
    settingsLaw_of rfl rfl rfl, ⟨by decide +kernel, by decide +kernel⟩, _, rfl⟩

/-! Chapters 10 and 1. -/

theorem meets_SessionsOpenedAndClosed :
    (State.reset.takes .station ∧ (0xFFFF : BitVec 16) ≠ 0 ∧ State.reset.vesselOpen = false) ∧
      (berth.takes .station ∧ berth.vesselOpen = true) ∧
      ({ inState .held with lots := State.reset.lots }.vesselOpen = true ∧
        (∀ l, ({ inState .held with lots := State.reset.lots }.lot l).state = .free) ∧
        (inState .held).belt.records = [] ∧ (inState .held).weigh.grant = none) ∧
      (inState .halted).sched.state = .halted := by
  unfold State.takes; decide +kernel

theorem meets_HoldsDeclaredAndAmended :
    (berth.takes .station ∧ berth.vesselOpen = true ∧ (2 : Byte).toNat = (1 : HoldId).val + 1 ∧ (8 : Byte).toNat = (7 : HoldId).val + 1) ∧
      (8 < (9 : Byte).toNat ∧ State.reset.takes .station ∧ State.reset.vesselOpen = false) ∧
      ((berth.hold 1).declared = false ∧ 6 * (berth.settings.hatchMargin : Int) + 300 ≤ 1540 - 1000 ∧
        6 * (berth.settings.hatchMargin : Int) + 300 ≤ 740 - 200) ∧
      (((pouring .pouring).hold 0).declared = true ∧ (pouring .pouring).sched.state.isPour = true) ∧
      ((berth.hold 0).declared = true ∧ berth.sched.state.isPour = false) ∧
      (1539 : Int) - 1000 < 6 * (berth.settings.hatchMargin : Int) + 300 := by
  unfold State.takes; decide +kernel

theorem meets_ShipOffsetStaged :
    (berth.takes .station ∧ berth.takes .ship ∧ berth.vesselOpen = true ∧ (1 : Byte).toNat = Heading.bowNegative.place ∧
      (-20000 : Int) = max (-20000) (min 20000 (0x8000 : BitVec 16).toInt)) ∧
      (pouring .pouring).sched.state.isPour = true ∧ berth.sched.state.isPour = false := by
  unfold State.takes; decide +kernel

/-- The pour under way with a record of its order on the belt. -/
def loaded : State := { feeding with
  belt.records := [onBelt 1 0]
  orders := feeding.orders.set 0 { load with state := .active, inTransit := 20000 } }

theorem meets_HoldLimitSet :
    (berth.takes .ship ∧ loaded.takes .ship ∧ berth.vesselOpen = true ∧ (1 : Byte).toNat = (0 : HoldId).val + 1 ∧
      (berth.hold 0).declared = true) ∧
      (berth.sched.state ≠ .pouring ∧ loaded.settings.bMin ≤ min 500000000 (20500 : BitVec 32).toNat - loaded.committed 0) ∧
      (loaded.sched.state = .pouring ∧ loaded.pourHold = some 0 ∧ loaded.beltClear = false ∧
        min 500000000 (20499 : BitVec 32).toNat - loaded.committed 0 < loaded.settings.bMin) ∧
      (feeding.sched.state = .pouring ∧ feeding.pourHold = some 0 ∧ feeding.beltClear = true ∧
        min 500000000 (499 : BitVec 32).toNat - feeding.committed 0 < feeding.settings.bMin) ∧
      (berth.hold 1).declared = false := by
  unfold State.takes; decide +kernel

/-- The berth with the hatch of hold 1 closed. -/
def shut : State := { berth with holds := berth.holds.set 0 { bay with hatchOpen := false } }

theorem meets_HatchesClosedAndOpened :
    (berth.takes .ship ∧ feeding.takes .ship ∧ shut.takes .ship ∧ berth.vesselOpen = true ∧ (berth.hold 0).declared = true) ∧
      berth.pourHold ≠ some 0 ∧
      (feeding.pourOrder = some 0 ∧ feeding.pourHold = some 0 ∧ inSet feeding.exclusion 0 = false) ∧
      (berth.hold 0).hatchOpen = true ∧
      ((shut.hold 0).hatchOpen = false ∧ inSet shut.suspension.mask 0 = false ∧ (shut.hold 0).lockout = none) ∧
      inSet { shut with suspension := ⟨1, [0]⟩ }.suspension.mask 0 = true := by
  unfold State.takes; decide +kernel

/-- A draft report for hold 1 above the range, one for a hold that is not declared, one that names a hold twice. -/
def drafts (n : Nat) : List (HoldId × BitVec 16) :=
  match n with
  | 0 => [(0, 2001)]
  | 1 => [(1, 5)]
  | _ => [(0, 1), (0, 2)]

theorem meets_DraftAndTpcReported :
    (berth.takes .ship ∧ berth.vesselOpen = true) ∧
      (drafts 0 ≠ [] ∧ ((drafts 0).map Prod.fst).Nodup ∧ (∀ e ∈ drafts 0, (berth.hold e.1).declared = true)) ∧
      (drafts 1 ≠ [] ∧ ((drafts 1).map Prod.fst).Nodup ∧ ∃ e ∈ drafts 1, (berth.hold e.1).declared = false) ∧
      (¬((drafts 2).map Prod.fst).Nodup ∧ (drafts 2).length ≤ 82) :=
  ⟨by unfold State.takes; decide +kernel, ⟨nofun, by decide, fun e h => by cases h with | head => rfl | tail _ h => cases h⟩,
    ⟨nofun, by decide, ⟨(1, 5), .head _, rfl⟩⟩, by decide, by decide⟩

theorem meets_HoldsSuspended :
    (berth.takes .ship ∧ feeding.takes .ship ∧ berth.vesselOpen = true ∧ ([0, 7] : List HoldId).Nodup ∧ ([0, 7] : List HoldId) ≠ []) ∧
      ({ berth with suspension.saved := [0, 0, 0, 0, 0] }.suspension.saved.length < 6 ∧ ∀ h, berth.pourHold = some h →
        inSet berth.exclusion h = true ∨ h ∉ ([0, 7] : List HoldId)) ∧
      (feeding.suspension.saved.length < 6 ∧ feeding.pourOrder = some 0 ∧ feeding.pourHold = some 0 ∧
        inSet feeding.exclusion 0 = false ∧ 0 ∈ ([0, 7] : List HoldId)) ∧
      6 ≤ { berth with suspension.saved := [0, 0, 0, 0, 0, 0] }.suspension.saved.length := by
  unfold State.takes; decide +kernel

theorem meets_HoldsResumed :
    (berth.takes .ship ∧ berth.vesselOpen = true ∧ berth.suspension.saved = []) ∧ SuspensionLaw berth ∧
      SuspensionLaw { berth with suspension := ⟨0x12, [0]⟩ } ∧ { berth with suspension := ⟨0x12, [0]⟩ }.takes .ship :=
  ⟨by unfold State.takes; decide +kernel, ⟨by decide, trivial⟩, ⟨by decide, by decide, trivial⟩,
    by unfold State.takes; decide +kernel⟩

theorem meets_LevelsArriveAndGoStale :
    berth.inReset = false ∧ (0 ≤ (3000 : BitVec 32).toInt ∧ (3000 : BitVec 32).toInt ≤ 3000) ∧
      (BitVec.ofInt 32 (-1)).toInt < 0 ∧ 3000 < (3001 : BitVec 32).toInt ∧ berth.river.stale = false ∧
      { berth with river.stale := true }.river.stale = true := by decide +kernel

/-! Chapter 2. -/

theorem meets_OrdersAdded :
    (berth.takes .station ∧ berth.vesselOpen = true ∧ (301 : BitVec 16) ≠ 0 ∧ (1 : Byte).toNat = (0 : HoldId).val + 1 ∧ 3 ≤ 3) ∧
      berth.lotSlot 302 = none ∧
      ((berth.hold 0).declared = true ∧ berth.lotSlot 301 = some 0 ∧ (berth.lot 0).state = .opened ∧
        (berth.order 1).state = .free ∧ (∀ k < (1 : OrderId), (berth.order k).state ≠ .free)) ∧
      ({ berth with lots := berth.lots.set 0 { wheat with state := .closing } }.lot 0).state = .closing ∧
      ∀ o, ({ berth with orders := Vector.replicate 64 load }.order o).state ≠ .free := by
  unfold State.takes; decide +kernel

/-- The berth with its order in a state. -/
def orderIn (st : OrderState) : State := { berth with orders := berth.orders.set 0 { load with state := st } }

/-- The pour draining after a TOP OFF, with a record of its order on the belt. -/
def draining : State := { loaded with sched.state := .draining, pour.endCause := some .topped }

theorem meets_OrdersWithdrawn :
    (berth.takes .station ∧ berth.vesselOpen = true ∧ (64 : Byte).toNat = (63 : OrderId).val + 1) ∧
      ((berth.order 0).state = .ready ∧ (berth.order 0).hold = some 0) ∧ ((orderIn .stalled).order 0).state = .stalled ∧
      ((loaded.order 0).state = .active ∧ loaded.pourOrder = some 0 ∧ loaded.sched.state = .pouring ∧ loaded.beltClear = false ∧
        loaded.takes .station) ∧
      (draining.takes .station ∧ draining.pourOrder = some 0 ∧ (draining.order 0).state = .active) ∧
      ((travel .raise 1985).pourOrder = some 0 ∧ ((travel .raise 1985).order 0).state = .active ∧
        (travel .raise 1985).beltClear = true ∧ (travel .raise 1985).takes .station) ∧
      ((orderIn .short).order 0).state = .short ∧ (berth.order 1).state = .free := by
  unfold State.takes; decide +kernel

theorem meets_OrdersRearmedAndReleased :
    (berth.takes .station ∧ berth.vesselOpen = true ∧ (1 : Byte).toNat = (0 : OrderId).val + 1) ∧
      ((orderIn .stalled).order 0).state = .stalled ∧
      ((berth.order 0).state ≠ .stalled ∧ (berth.order 0).state ≠ .free ∧ (berth.order 0).state = .ready) ∧
      (((orderIn .done).order 0).state = .done ∧ ((orderIn .done).order 0).inTransit = 0 ∧
        ((orderIn .done).order 0).granted = 0) ∧
      ({ orderIn .done with orders := berth.orders.set 0 { load with state := .done, inTransit := 1 } }.order 0).inTransit ≠
        0 := by
  unfold State.takes; decide +kernel

theorem meets_PassesEdited :
    (berth.takes .station ∧ berth.vesselOpen = true ∧ (12 : Byte).toNat = (11 : PassId).val + 1) ∧
      (([0, 1, 2, 3, 4, 5, 6, 7] : List HoldId) ≠ [] ∧ ([0, 1, 2, 3, 4, 5, 6, 7] : List HoldId).Nodup) ∧
      berth.sched.state = .stopped ∧ berth.passes.staged.set (11 : PassId) [] = berth.passes.inEffect ∧
      (Vector.replicate 12 [] : Vector (List HoldId) 12) ≠ berth.passes.inEffect ∧ (inState .seeking).sched.state = .seeking := by
  unfold State.takes; decide +kernel

/-! Chapter 3. -/

theorem meets_WalkStarted :
    (berth.takes .cab ∧ berth.vesselOpen = true ∧ berth.inputs.eStop = false ∧ berth.sched.state = .stopped) ∧
      (inState .complete).sched.state = .complete ∧
      ((inState .halted).sched.state = .halted ∧
        ((inState .halted).sched.halts.axis = true → (inState .halted).inputs.driveFault = ⟨false, false, false⟩) ∧
        ((inState .halted).sched.halts.belt = true → (inState .halted).inputs.beltConfirm = false)) ∧
      ({ inState .halted with sched.halts.belt := true, inputs.beltConfirm := true }.sched.halts.belt = true) ∧
      (inState .seeking).sched.state = .seeking ∧ State.reset.vesselOpen = false ∧ State.reset.takes .cab := by
  unfold State.takes; decide +kernel

theorem meets_ScheduleHalted :
    (berth.takes .station ∧ feeding.takes .station) ∧ (inState .held).sched.state = .held ∧
      feeding.pourOrder = some 0 ∧ berth.sched.state = .stopped := by
  unfold State.takes; decide +kernel

/-- The walk at the order of the quay's hold 3, with another hold in a later pass. -/
def walking : State := { quay 1184 with
  sched.state := .seeking
  passes := ⟨((quay 1184).passes.inEffect).set 11 [7], ((quay 1184).passes.staged).set 11 [7], false⟩ }

theorem meets_PositionsExamined :
    (walking.inReset = false ∧ walking.sched.state = .seeking ∧ walking.nextPosition = some (11, 0)) ∧
      (∀ h, ({ walking with queues := State.reset.queues }.chain walking.sched.pass)[walking.sched.pos.val]? = some h →
        { walking with queues := State.reset.queues }.queue h = []) ∧
      ((walking.chain walking.sched.pass)[walking.sched.pos.val]? = some 2 ∧ walking.queue 2 = [0] ∧
        (walking.order 0).state = .ready ∧ { walking with river.level := 1805 }.ineligible 2 0 = some .clearance) ∧
      ((walking.order 0).hold = some 2 ∧ (walking.order 0).spot = some (.mid, .centre) ∧ walking.ineligible 2 0 = none ∧
        walking.pour.reasons = ⟨false, false, false, false⟩ ∧ walking.vesselOpen = true ∧
        { walking with axes.reach.state := .fault }.ineligible 2 0 = none ∧
        { walking with pour.reasons.cab := true }.ineligible 2 0 = none ∧
        walking.spoutAtOrAbove (walking.travelHeight (walking.moveFromGantry (walking.spotX 2 .mid))) = false) ∧
      ({ walking with orders := walking.orders.set 0 { load with state := .stalled } }.order 0).state = .stalled := by
  decide +kernel

theorem meets_PositionsExamined_axes : ∀ a, (walking.axis a).state ≠ .fault := by intro a; cases a <;> decide +kernel

theorem meets_RoundsEndAndEligibility :
    ({ inState .seeking with queues := State.reset.queues }.inReset = false ∧
      { inState .seeking with queues := State.reset.queues }.nextPosition = none ∧
      ∀ h, ({ inState .seeking with queues := State.reset.queues }.chain 0)[0]? = some h →
        { inState .seeking with queues := State.reset.queues }.queue h = []) ∧
      { inState .seeking with sched.progress := true, queues := State.reset.queues }.sched.progress = true ∧
      (inState .seeking).sched.progress = false ∧ (inState .seeking).queue 0 ≠ [] ∧
      ((inState .seeking).inReset = false ∧ (inState .seeking).nextPosition = none ∧
        ((inState .seeking).chain (inState .seeking).sched.pass)[(inState .seeking).sched.pos.val]? = some 0 ∧
        (inState .seeking).queue 0 = [0] ∧ ((inState .seeking).order 0).state = .ready ∧
        { inState .seeking with holds := (inState .seeking).holds.set 0 { bay with hatchOpen := false } }.ineligible 0 0 =
          some .closed) ∧
      ({ inState .seeking with orders := berth.orders.set 0 { load with state := .stalled } }.order 0).state = .stalled ∧
      ((∀ m, (walking.chain m).Nodup) ∧ walking.nextPosition = some (11, 0)) ∧
      [HeldCause.closed, .excluded, .grade, .carryover, .full, .clearance] =
        [.closed, .excluded, .grade, .carryover, .full] ++ .clearance :: [] := by
  decide +kernel

/-! Chapter 4. -/

/-- The pour paused from POURING for a reason. -/
def paused (r : ReasonSet) : State := { pouring .paused with pour.reasons := r, pour.returnState := some .pouring }

/-- The travel of section 5.3 paused by the ship in RAISE, with a record on the belt. -/
def restarting (r : ReturnState) : State := { travel .raise 1985 with
  sched.state := .paused
  spout.cond := some .abandoned
  belt.records := [onBelt 1 0]
  pour.reasons := ⟨false, true, false, false⟩
  pour.returnState := some r }

theorem meets_PauseReasonsGoverned :
    (berth.takes .cab ∧ feeding.takes .cab ∧ State.reset.vesselOpen = false ∧ berth.vesselOpen = true) ∧
      (berth.sched.state ≠ .travelling ∧ berth.sched.state ≠ .pouring) ∧
      (feeding.sched.state = .pouring ∧ feeding.pour.reasons = ⟨false, false, false, false⟩) ∧
      (pouring .travelling).sched.state = .travelling ∧
      ((paused ⟨true, true, false, false⟩).pour.reasons.put .cab false ≠ ⟨false, false, false, false⟩) ∧
      ((paused ⟨true, false, false, false⟩).sched.state = .paused ∧
        (paused ⟨true, false, false, false⟩).pour.reasons ≠ ⟨false, false, false, false⟩ ∧
        (paused ⟨true, false, false, false⟩).pour.reasons.put .cab false = ⟨false, false, false, false⟩ ∧
        (paused ⟨true, false, false, false⟩).pour.returnState = some .pouring ∧
        (paused ⟨true, false, false, false⟩).pour.manualSeen = false ∧ (paused ⟨true, false, false, false⟩).takes .cab) ∧
      ((restarting .travelling).sched.state = .paused ∧ (restarting .travelling).takes .ship ∧
        (restarting .travelling).pour.reasons.put .ship false = ⟨false, false, false, false⟩ ∧
        (restarting .travelling).pour.returnState = some .travelling ∧ (restarting .travelling).spout.phase = .raise) ∧
      ((restarting .draining).pour.returnState = some .draining ∧ (restarting .draining).beltClear = false ∧
        (restarting .draining).pourHold = some 2) := by
  unfold State.takes; decide +kernel

theorem meets_PoursToppedOff :
    (loaded.takes .cab ∧ loaded.vesselOpen = true ∧ loaded.pourOrder = some 0 ∧ 0 < (loaded.order 0).target ∧
      loaded.sched.state = .pouring ∧ loaded.pour.returnState = none ∧ loaded.beltClear = false) ∧
      ({ paused ⟨true, false, false, false⟩ with belt := loaded.belt }.pourOrder = some 0 ∧
        { paused ⟨true, false, false, false⟩ with belt := loaded.belt }.beltClear = false) ∧
      (feeding.beltClear = true ∧ feeding.sched.stepFlag = false ∧ { feeding with sched.stepFlag := true }.sched.stepFlag = true) ∧
      ((travel .raise 1985).takes .cab ∧ (travel .raise 1985).pourOrder = some 0 ∧ (travel .raise 1985).sched.state = .travelling ∧
        0 < ((travel .raise 1985).order 0).target) ∧
      (pouring .draining).sched.state = .draining ∧
      ({ feeding with orders := feeding.orders.set 0 { load with state := .active, target := 0 } }.order 0).target = 0 := by
  unfold State.takes; decide +kernel

theorem meets_BeltSupervised :
    feeding.inReset = false ∧ { feeding with pour.supervision := .starting }.pour.supervision = .starting ∧
      berth.pour.supervision = .off ∧ (feeding.pourOrder = some 0 ∧ feeding.vesselOpen = true ∧ feeding.pour.supervision = .running) ∧
      { feeding with pour.supervision := .starting, pour.confirmDeadline := some 5000 }.pour.confirmDeadline = some 5000 := by
  decide +kernel

theorem meets_EmergencyStops :
    feeding.inReset = false ∧ (feeding.vesselOpen = true ∧ feeding.pourOrder = some 0) ∧
      (berth.vesselOpen = true ∧ berth.sched.state.isPour = false ∧ berth.sched.state ≠ .halted) ∧
      ((inState .halted).vesselOpen = true ∧ (inState .halted).sched.state = .halted ∧
        (inState .halted).sched.halts.estop = false ∧ { inState .halted with sched.halts.estop := true }.sched.halts.estop = true) ∧
      State.reset.vesselOpen = false ∧ State.reset.sched.state.isPour = false := by decide +kernel

/-! Chapter 5. -/

theorem meets_AuthorityTaken :
    (feeding.takes .cab ∧ berth.takes .cab ∧ feeding.sched.state = .pouring) ∧
      ((jogging 0 0 0).spout.manual = true ∧ (jogging 0 0 0).sched.state ≠ .pouring ∧ (jogging 0 0 0).sched.state ≠ .draining) ∧
      (berth.spout.manual = false ∧ berth.sched.state.isPour = false) ∧
      (paused ⟨true, false, false, false⟩).sched.state = .paused ∧
      ((travel .raise 1985).sched.state = .travelling ∧ (travel .raise 1985).pour.reasons = ⟨false, false, false, false⟩ ∧
        (travel .raise 1985).spout.manual = false) ∧
      (jogging 0 0 0).sched.state ≠ .paused ∧
      ({ restarting .travelling with spout.manual := true, pour.reasons := ⟨false, false, false, true⟩ }.spout.manual = true ∧
        (restarting .travelling).sched.state = .paused ∧ (restarting .travelling).takes .cab) := by
  unfold State.takes; decide +kernel

theorem meets_AxesJogged :
    ((jogging (-1497) 1052 1612).takes .cab ∧ (jogging (-1497) 1052 1612).spout.manual = true ∧
      (jogging (-1497) 1052 1612).inputs.eStop = false ∧ ((jogging (-1497) 1052 1612).axis .gantry).state ≠ .fault ∧
      ((jogging (-1497) 1052 1612).axis .gantry).position = some (-1497) ∧
      clampInt (-20000) 20000 (-1497 + (1000 : BitVec 32).toInt) = -497 ∧
      (jogging (-1497) 1052 1612).lowPointAtOrAbove ((jogging (-1497) 1052 1612).travelHeight
        ((jogging (-1497) 1052 1612).moveFromGantry (-497))) = false ∧
      (jogging (-1497) 1052 1612).holdUnder = some 2 ∧
      -740 = clampInt ((jogging (-1497) 1052 1612).openingX 2).1 ((jogging (-1497) 1052 1612).openingX 2).2 (-497)) ∧
      ((jogging (-1497) 1052 1612).staysInHatch = true ∧ (1612 : Int) ≤ clampInt (-500) 2600 (1612 + (0 : BitVec 32).toInt)) ∧
      ((jogging (-500) 1052 2150).staysInHatch = false ∧
        (jogging (-500) 1052 2150).travelHeight (jogging (-500) 1052 2150).moveInPlace = 2200 ∧
        clampInt (-500) 2600 (2150 + (BitVec.ofInt 32 (-1)).toInt) < 2150) ∧
      (jogging (-500) 1052 2200).lowPointAtOrAbove 2200 = true ∧
      ((jogging (-500) 1052 1612).lowPointAtOrAbove ((jogging (-500) 1052 1612).travelHeight
        (jogging (-500) 1052 1612).moveInPlace) = false ∧ (jogging (-500) 1052 1612).holdUnder = none) ∧
      ((jogging (-500) 1052 1612).axes.gantry.position = some (-500) ∧ State.reset.axes.gantry.position = none ∧
        State.reset.settings.lower.spout ≤ State.reset.settings.upper.spout) := by
  unfold State.takes; decide +kernel

/-- GANTRY on its way to a target with a class. -/
def rolling (k : MoveKind) : State := { berth with
  axes.gantry := ⟨.moving, some 0, some 500, some k, .fast, .fast, none, some 300000, none⟩ }

theorem meets_PositionsArrive :
    (berth.inReset = false ∧ berth.spout.cond = none ∧ berth.sched.state.isPour = false ∧ berth.pour.runLine = false ∧
      berth.pour.supervision = .off ∧ berth.pour.confirmDeadline = none) ∧
      ((berth.axis .gantry).state ≠ .moving ∧ ¬((20200 : BitVec 32).toInt < berth.settings.lower.get .gantry - 200 ∨
        berth.settings.upper.get .gantry + 200 < (20200 : BitVec 32).toInt)) ∧
      (((rolling .graded).axis .gantry).state = .moving ∧ ((rolling .graded).axis .gantry).target = some 500 ∧
        ((rolling .graded).axis .gantry).kind = some .graded ∧ ((495 : BitVec 32).toInt - 500).natAbs ≤ berth.settings.tolerance ∧
        berth.settings.tolerance < ((494 : BitVec 32).toInt - 500).natAbs) ∧
      ((rolling .tracking).axis .gantry).kind = some .tracking ∧
      berth.settings.upper.get .gantry + 200 < (20201 : BitVec 32).toInt := by decide +kernel

theorem meets_TravelsAdvance :
    ((travel .raise 1985).inReset = false ∧ ((travel .raise 1985).axis .spout).state = .moving ∧
      (travel .raise 1985).settings.lower.get .spout - 200 ≤ (1980 : BitVec 32).toInt ∧
      (1980 : BitVec 32).toInt ≤ (travel .raise 1985).settings.upper.get .spout + 200) ∧
      ((travel .raise 1985).spout.phase = .raise ∧ (travel .raise 1985).spout.cond = some .inProgress ∧
        (((travel .raise 1985).axis .spout).arrivedAt (travel .raise 1985).settings 0 1980).state = .inpos ∧
        (travel .raise 1985).spout.height = some 1980 ∧ (travel .raise 1985).spout.spotX = some (-1500) ∧
        (travel .raise 1985).spout.spotY = some 1050) ∧
      (((travel .raise 1984).axis .spout).arrivedAt (travel .raise 1984).settings 0 1979).state = .inpos ∧
      ((travel .traverse 1985).spout.phase = .traverse ∧ (travel .traverse 1985).spout.cond = some .inProgress ∧
        (travel .traverse 1985).settings.lower.get .gantry - 200 ≤ (2300 : BitVec 32).toInt ∧
        { travel .traverse 1985 with axes.spout.position := some 1979 }.spoutAtOrAbove 1980 = false) ∧
      ((travel .lower 1610).spout.phase = .lower ∧ (travel .lower 1610).pourOrder = some 0 ∧
        0 < ((travel .lower 1610).order 0).target ∧ (travel .lower 1610).pour.endCause = none ∧
        (((travel .lower 1610).axis .spout).arrivedAt (travel .lower 1610).settings 0 1612).state = .inpos) ∧
      (feeding.sched.state = .pouring ∧ feeding.pourHold = some 0 ∧ feeding.overHold 0 = true ∧
        { feeding with axes.gantry.position := some 5000 }.overHold 0 = false) ∧
      { travel .raise 1985 with axes.spout.state := .fault }.axes.spout.state = .fault := by decide +kernel

theorem meets_ClassesArrive : berth.inReset = false := rfl

theorem meets_AxesFault :
    (berth.inReset = false ∧ feeding.inReset = false) ∧
      ({ rolling .graded with axes.gantry.classDeadline := some 2000 }.axis .gantry).classDeadline = some 2000 ∧
      (((rolling .graded).axis .gantry).state = .moving ∧ ((rolling .graded).axis .gantry).moveDeadline = some 300000) ∧
      ((berth.axis .gantry).state ≠ .fault ∧ berth.sched.state.isPour = false) ∧
      ((feeding.axis .gantry).state ≠ .fault ∧ feeding.pourOrder = some 0 ∧ feeding.vesselOpen = true) ∧
      (feeding.settings.upper.get .gantry + 200 < (20201 : BitVec 32).toInt ∧
        (BitVec.ofInt 32 (-20201)).toInt < feeding.settings.lower.get .gantry - 200) ∧
      ({ berth with axes.gantry.state := .fault }.axis .gantry).state = .fault := by decide +kernel

/-! Chapters 7 and 8. -/

theorem meets_ScalePolled :
    (berth.takes .scale ∧ feeding.takes .scale ∧ (1 : Byte).toNat = (if false then 0 else 1) ∧ 1 < (2 : Byte).toNat) ∧
      berth.sched.state ≠ .pouring ∧ (pouring .pouring).pour.supervision ≠ .running ∧
      { feeding with weigh.grant := some (granted 1) }.weigh.grant ≠ none ∧
      16 ≤ { feeding with belt.records := List.replicate 16 (onBelt 1 0) }.belt.records.length ∧
      ({ feeding with belt.records := List.replicate 15 (onBelt 1 0), weigh.ready := false }.belt.records.length < 16 ∧
        { feeding with weigh.ready := false }.weigh.ready = false) ∧
      (feeding.sched.state = .pouring ∧ feeding.pour.supervision = .running ∧ feeding.weigh.grant = none ∧
        feeding.belt.records.length < 16 ∧ feeding.weigh.ready = true ∧ feeding.sched.active = some 0 ∧
        (feeding.order 0).hold = some 0 ∧ feeding.settings.bMin ≤ (20000 : Nat)) ∧
      ((poll 20480 250000 false).settings.bMin = 500 ∧ { poll 480 250000 false with belt.records := [onBelt 1 0] }.belt.records ≠ [] ∧
        (480 : Nat) < (poll 480 250000 false).settings.bMin) ∧
      ((poll 480 250000 false).belt.records = [] ∧ (poll 480 250000 false).sched.stepFlag = false) := by
  unfold State.takes; decide +kernel

/-- The pour under way with batch 4,117 granted. -/
def weighing : State := { feeding with
  weigh := ⟨true, some (granted 4117), 4118, none⟩
  orders := feeding.orders.set 0 { load with state := .active, granted := 20000 } }

theorem meets_ReportsAccepted :
    (weighing.takes .scale ∧ weighing.weigh.grant = some (granted 4117) ∧ (granted 4117).batch = (4117 : BitVec 16).toNat ∧
      (4117 : BitVec 16) ≠ 0 ∧ (16777215 : BitVec 32).toNat ≤ 16777215 ∧ weighing.lotSlot (granted 4117).lot = some 0 ∧
      (weighing.lot 0).count < 4294967295) ∧
      ((62118 : BitVec 32).toNat ≤ (1482350 : BitVec 32).toNat ∧
        weighing.settings.Nearest (((1482350 : BitVec 32).toNat - (62118 : BitVec 32).toNat) * weighing.settings.calMul) 20000) ∧
      (40000 : BitVec 32).toNat < (62118 : BitVec 32).toNat :=
  ⟨by unfold State.takes; decide +kernel, ⟨by decide, 2000, by decide +kernel⟩, by decide⟩

theorem meets_FaultReportsCharged :
    (weighing.takes .scale ∧ weighing.weigh.grant = some (granted 4117) ∧ weighing.lotSlot (granted 4117).lot = some 0) ∧
      weighing.pourOrder = some (granted 4117).order ∧
      { weighing with sched := Sched.cleared }.pourOrder ≠ some (granted 4117).order := by
  unfold State.takes; decide +kernel

theorem meets_ReportsRefused :
    (weighing.takes .scale ∧ 16777215 < (16777216 : BitVec 32).toNat ∧ 4 ≤ (4 : Byte).toNat ∧ (3 : Byte).toNat < 4) ∧
      feeding.weigh.grant = none ∧
      (weighing.weigh.grant = some (granted 4117) ∧ (granted 4117).batch ≠ (4116 : BitVec 16).toNat) ∧
      (State.reset.vesselOpen = false ∧ State.reset.sched.state.isPour = false) ∧
      ((inState .halted).sched.state = .halted ∧ (inState .halted).sched.halts.scaleProtocol = false) ∧
      { inState .halted with sched.halts.scaleProtocol := true }.sched.halts.scaleProtocol = true ∧
      (berth.sched.state.isPour = false ∧ berth.sched.state ≠ .halted ∧ berth.vesselOpen = true) ∧
      (weighing.vesselOpen = true ∧ weighing.pourOrder = some 0) := by
  unfold State.takes; decide +kernel

/-- A state with records on the belt and the counter at 17,990 cm, so that the next pulse brings the first to 18,000 cm. -/
def rolled (s : State) (rs : List Transit) : State := { s with belt := ⟨rs, 17990, some 0, none⟩ }

theorem meets_BeltPulsed :
    ((rolled berth [onBelt 1 1]).inReset = false ∧ (rolled berth [onBelt 1 1]).belt.records = [] ++ [onBelt 1 1] ∧
      Belt.notDue ((rolled berth [onBelt 1 1]).belt.pulsed berth.settings) berth.settings [onBelt 1 1]) ∧
      ((rolled carrying [onBelt 1 0, onBelt 2 0]).belt.records = [onBelt 1 0, onBelt 2 0] ++ [] ∧
        carrying.settings.beltLength ≤
          (((rolled carrying [onBelt 1 0, onBelt 2 0]).belt.pulsed carrying.settings).counter - (onBelt 2 0).stamp).toNat ∧
        carrying.lotSlot (onBelt 1 0).lot ≠ none ∧ (rolled carrying []).belt.lastHold ≠ none ∧ carrying.pour.runLine = true ∧
        carrying.pourHold = some 0 ∧ (rolled carrying []).weigh.grant ≠ none) ∧
      (berth.holdUnder = some 0 ∧ { berth with axes.gantry.position := none }.holdUnder = none ∧
        State.FallsInto (rolled { berth with axes.gantry.position := none } []) 0 true) ∧
      (∃ s : State, s = { rolled feeding [onBelt 1 0] with sched.state := .draining, pour.endCause := some .topped } ∧
        s.FallsInto 0 false ∧ s.weigh.grant = none ∧ s.isDraining = true ∧ s.pourOrder = some 0 ∧ s.sched.stepFlag = false ∧
        s.belt.lastHold = some 0 ∧ s.lotSlot (onBelt 1 0).lot = some 0) := by
  refine ⟨⟨by decide +kernel, rfl, ?_⟩, by decide +kernel, ⟨by decide +kernel, by decide +kernel, ?_⟩, _, rfl, ?_,
    by decide +kernel⟩
  · intro r h; cases h; decide +kernel
  · unfold State.FallsInto; decide +kernel
  · unfold State.FallsInto; decide +kernel

/-! Chapters 9 to 11. -/

/-- A channel in WARN that one more sample at or above stop_on takes to STOP. -/
def choking : ChannelRec := ⟨.warn, 2, 0, 300, none, none, none⟩

theorem meets_SamplesClassified :
    berth.inReset = false ∧ ({ berth with dust.channels.tower.staleAt := some 3000 }.channel .tower).staleAt = some 3000 ∧
      (berth.channel .tower).staleAt = none ∧
      (feeding.pour.reasons = ⟨false, false, false, false⟩ ∧ feeding.sched.state = .pouring ∧
        { feeding with dust.channels.tower := choking }.level .tower = .warn ∧
        { feeding with dust.channels.tower := choking.after (feeding.settings.channels.get .tower) 0 300 }.level .tower =
          .stop) ∧
      ({ feeding with dust.channels.head := choking }.level .head = .warn ∧
        { feeding with dust.channels.head := ⟨.warn, 0, 4, 70, none, none, none⟩ }.level .head = .warn ∧
        { feeding with dust.channels.head :=
          ChannelRec.after ⟨.warn, 0, 4, 70, none, none, none⟩ (feeding.settings.channels.get .head) 0 70 }.level .head =
            .normal) ∧
      (paused ⟨false, false, true, false⟩).sched.state = .paused := by decide +kernel

theorem meets_LockoutsPlacedAndExpired :
    (feeding.inReset = false ∧ berth.inReset = false ∧ feeding.level .head ≠ .stop ∧
      { feeding with
        dust.channels.head := (feeding.channel .head).after (feeding.settings.channels.get .head) feeding.now 10000 }.level
          .head = .stop ∧
      feeding.pourOrder = some 0 ∧ feeding.pourHold = some 0 ∧ inSet feeding.exclusion 0 = false) ∧
      berth.sched.state.isPour = false ∧
      ({ berth with holds := berth.holds.set 0 { bay with lockout := some 300000 } }.hold 0).lockout = some 300000 ∧
      (berth.hold 0).lockout = none ∧ berth.takes .cab ∧
      ({ feeding with dust.channels.head.staleAt := some 3000 }.channel .head).staleAt = some 3000 ∧
      { feeding with
        settings.channels.head.critical := true
        dust.channels.head := ⟨.fault, 0, 0, 0, none, none, some .stale⟩ }.level .head = .stop := by
  unfold State.takes; decide +kernel

theorem meets_LotsOpenedAndClosed :
    (berth.takes .station ∧ berth.vesselOpen = true ∧ (301 : BitVec 16) ≠ 0) ∧ berth.lotSlot 301 ≠ none ∧
      (berth.lotSlot 302 = none ∧ (berth.lot 1).state = .free ∧ (∀ k < (1 : LotSlot), (berth.lot k).state ≠ .free)) ∧
      (∀ l, ({ berth with lots := Vector.replicate 16 wheat }.lot l).state ≠ .free) ∧
      ({ berth with lots := berth.lots.set 0 { wheat with state := .closing } }.lot 0).state = .closing ∧
      (∃ o, (berth.order o).lot = (301 : BitVec 16).toNat ∧ (berth.order o).state = .ready) ∧
      ((berth.lot 0).state = .opened ∧ (berth.lot 0).drained = false ∧
        (∀ o, ((orderIn .done).order o).lot = (301 : BitVec 16).toNat → ((orderIn .done).order o).state ≠ .ready ∧
          ((orderIn .done).order o).state ≠ .active ∧ ((orderIn .done).order o).state ≠ .stalled) ∧
        (∀ k, (berth.lot k).state ≠ .free → (berth.lot k).number = (301 : BitVec 16).toNat → k = 0)) ∧
      ((∃ r ∈ [onBelt 1 0], r.lot = (301 : BitVec 16).toNat) ∧ berth.belt.records = [] ∧ berth.weigh.grant = none ∧
        berth.bank.bills.length < 12 ∧ berth.bank.exhausted = false) := by
  unfold State.takes; decide +kernel

/-- A bill of some lot. -/
def bill (n : Nat) : Bill := ⟨n, 7, 300, 12, 0x14, 0, 0, none, none, 0, none, none, [], ⟨false, false, false⟩⟩

/-- A full bill store, with a drained lot that waits behind an undrained one. -/
def fullStore : State := { berth with
  bank := ⟨[302, 301], (List.range 12).map fun n => bill (37 + n), 49, false⟩
  lots := (berth.lots.set 0 { wheat with state := .closing, drained := true }).set 1 { wheat with number := 302, state := .closing } }

theorem meets_BillsReadAndReleased :
    (berth.takes .station ∧ fullStore.takes .station ∧ berth.bank.bills = [] ∧ (37 : BitVec 32) ≠ 0) ∧
      (fullStore.bank.bills = bill 37 :: ((List.range 11).map fun n => bill (38 + n)) ∧
        (37 : BitVec 32).toNat = (bill 37).number ∧ (38 : BitVec 32).toNat ≠ (bill 37).number ∧
        ((List.range 11).map fun n => bill (38 + n)).length = 11 ∧ fullStore.bank.exhausted = false ∧
        fullStore.bank.closing = [302] ++ 301 :: [] ∧ fullStore.lotSlot 301 = some 0 ∧ (fullStore.lot 0).state = .closing ∧
        (fullStore.lot 0).drained = true ∧
        (∀ m ∈ [302], ∀ k, fullStore.lotSlot m = some k → (fullStore.lot k).drained = false)) ∧
      ((List.range 10).map fun n => bill (38 + n)).length < 11 := by
  unfold State.takes; decide +kernel

theorem meets_SettingsWritten :
    (berth.takes .station ∧ State.reset.takes .station ∧ settingOf 25 none = some .beltLength ∧
      settingOf 26 (some 5) = some (.warnOn .extract) ∧ settingOf 32 (some 0) = some (.critical .head) ∧
      settingOf 34 (some 0) = some (.rate .station)) ∧
      (berth.vesselOpen = true ∧ SettingName.beltLength.anyTime = false ∧ (SettingName.warnOn .extract).anyTime = true) ∧
      (State.reset.vesselOpen = false ∧ State.reset.settings.allows .beltLength (60000 : BitVec 32).toInt = true ∧
        State.reset.settings.allows .beltLength (60001 : BitVec 32).toInt = false ∧
        State.reset.settings.allows (.rate .station) (9600 : BitVec 32).toInt = true ∧
        State.reset.settings.value (.rate .station) ≠ (9600 : BitVec 32).toInt ∧
        State.reset.settings.allows (.critical .head) (1 : BitVec 32).toInt = true) ∧
      34 < (35 : Byte).toNat ∧ berth.store.cond = .idle ∧
      ({ berth with store.cond := .writing, store.copying := some Settings.default }.store.copying = some Settings.default) := by
  unfold State.takes; decide +kernel

theorem meets_ReadsAnswered :
    berth.takes .station ∧ (8 : Byte).toNat = (7 : HoldId).val + 1 ∧ 8 < (9 : Byte).toNat ∧
      (64 : Byte).toNat = (63 : OrderId).val + 1 ∧ (12 : Byte).toNat = (11 : PassId).val + 1 ∧ (301 : BitVec 16) ≠ 0 ∧
      berth.lotSlot (301 : BitVec 16).toNat = some 0 ∧ berth.lotSlot (302 : BitVec 16).toNat = none ∧
      (64 < (65 : Byte).toNat ∧ 12 < (13 : Byte).toNat ∧ 1 < (2 : Byte).toNat) ∧
      (berth.order 1 = Order.free ∧ (berth.order 0).state ≠ .free ∧ (berth.order 0).hold = some 0 ∧
        berth.queue 0 = [] ++ 0 :: [] ∧ 0 ∉ ([] : List OrderId)) ∧
      (301 ∉ berth.bank.closing ∧ fullStore.bank.closing = [302] ++ 301 :: [] ∧ 301 ∉ [302]) := by
  unfold State.takes; decide +kernel

end Sys2Proof.Tests
end

section
/-! What a travel operation may change, and what the scheduler's own transitions may change: two frames, each an equation between
whole states, with one lemma for each operation. -/

set_option Elab.async false

namespace Sys2Proof.Machine

/-! ### Travel operations write the axes and the spout record alone -/

/-- `t` is `s` but for the axes and the spout record. -/
def Travels (s t : State) : Prop := ∃ axes spout, t = { s with axes := axes, spout := spout }

variable {s t u : State}

theorem Travels.refl (s : State) : Travels s s := ⟨_, _, rfl⟩

theorem Travels.trans : Travels s t → Travels t u → Travels s u := by
  rintro ⟨_, _, rfl⟩ ⟨a, b, rfl⟩; exact ⟨a, b, rfl⟩

theorem moveAxis_travels (a : Axis) (k : MoveKind) (x : Int) (s : State) : Travels s (moveAxis a k x s) := by
  unfold moveAxis; split
  · exact .refl s
  · exact ⟨_, _, rfl⟩

theorem stopAxes_travels (s : State) : Travels s (stopAxes s) := ⟨_, _, rfl⟩

theorem writeHeight_travels (s : State) : Travels s (writeHeight s) := ⟨_, _, rfl⟩

theorem stopTraverse_travels (s : State) : Travels s (stopTraverse s) := ⟨_, _, rfl⟩

theorem abandonTravel_travels (s : State) : Travels s (abandonTravel s) := by
  unfold abandonTravel; split
  · exact .refl s
  all_goals exact ⟨_, _, rfl⟩

theorem writeSpot_travels (h : HoldId) (x : Option (Along × Across)) (s : State) : Travels s (writeSpot h x s) := by
  unfold writeSpot; split
  · exact ⟨_, _, rfl⟩
  · exact .refl s

theorem setPhase_travels (x : Phase) (c : Option TravelCond) (s : State) :
    Travels s { s with spout.phase := x, spout.cond := c } := ⟨_, _, rfl⟩

theorem checkLower_travels (s : State) : Travels s (checkLower s).1 := by
  unfold checkLower; split
  · exact ⟨_, _, rfl⟩
  · exact .refl s

theorem lowerMove_travels (s : State) : Travels s (lowerMove s) := by
  unfold lowerMove; split
  · exact moveAxis_travels ..
  · exact .refl s

theorem beginLower_travels (s : State) : Travels s (beginLower s).1 :=
  (setPhase_travels _ _ s).trans ((lowerMove_travels _).trans (checkLower_travels _))

theorem checkTraverse_travels (s : State) : Travels s (checkTraverse s).1 := by
  unfold checkTraverse; split
  · exact beginLower_travels s
  · exact .refl s

theorem moveTo_travels (a : Axis) (x : Option Int) (s : State) : Travels s (moveTo a x s) := by
  unfold moveTo; split
  · exact moveAxis_travels ..
  · exact .refl s

theorem beginTraverse_travels (s : State) : Travels s (beginTraverse s).1 :=
  (setPhase_travels _ _ s).trans ((moveTo_travels ..).trans ((moveTo_travels ..).trans (checkTraverse_travels _)))

theorem checkRaise_travels (s : State) : Travels s (checkRaise s).1 := by
  unfold checkRaise; split
  · split
    · exact beginTraverse_travels s
    · exact ⟨_, _, rfl⟩
  · exact .refl s

theorem raiseMove_travels (s : State) : Travels s (raiseMove s).1 :=
  (setPhase_travels s.spout.phase _ s).trans ((moveAxis_travels ..).trans (checkRaise_travels _))

theorem beginRaise_travels (s : State) : Travels s (beginRaise s).1 := by
  have h := (setPhase_travels .raise (some .inProgress) s).trans (writeHeight_travels _)
  unfold beginRaise; dsimp only; split
  · exact h.trans (beginTraverse_travels _)
  · exact h.trans (raiseMove_travels _)

theorem retakeRaise_travels (s : State) : Travels s (retakeRaise s).1 := by
  have h := writeHeight_travels s
  unfold retakeRaise; dsimp only; split
  · exact h.trans (beginTraverse_travels _)
  · split
    · exact h
    · exact h.trans (raiseMove_travels _)

theorem checkHeight_travels (s : State) : Travels s (checkHeight s).1 := by
  have h := writeHeight_travels s
  unfold checkHeight; dsimp only; split
  · exact h
  · exact h.trans ((stopTraverse_travels _).trans (beginRaise_travels _))

theorem retakeLower_travels (s : State) : Travels s (retakeLower s).1 := by
  unfold retakeLower; split
  · split
    · exact .refl s
    · exact (lowerMove_travels s).trans (checkLower_travels _)
  · exact .refl s

theorem track_travels (s : State) : Travels s (track s) := by
  unfold track; split
  · split
    · exact moveAxis_travels ..
    · exact .refl s
  · exact .refl s

theorem recomputeTravel_travels (b : Bool) (s : State) : Travels s (recomputeTravel b s).1 := by
  unfold recomputeTravel; split
  · split
    · exact .refl s
    · exact retakeRaise_travels s
  · split
    · exact .refl s
    · exact retakeRaise_travels s
  · split
    · exact .refl s
    · exact checkHeight_travels s
  · exact retakeLower_travels s
  · exact track_travels s

theorem spoutArrived_travels (s : State) : Travels s (spoutArrived s).1 := by
  unfold spoutArrived; split
  · exact checkRaise_travels s
  · exact retakeRaise_travels s
  · exact checkHeight_travels s
  · exact checkLower_travels s
  · exact .refl s

theorem traverseArrived_travels (s : State) : Travels s (traverseArrived s).1 := by
  unfold traverseArrived; split
  · exact checkTraverse_travels s
  · exact .refl s

theorem restartTravel_travels (b : Bool) (s : State) : Travels s (restartTravel b s).1 := by
  unfold restartTravel; dsimp only; split
  · exact beginRaise_travels s
  · split
    · split
      · exact (writeHeight_travels s).trans (beginTraverse_travels _)
      · exact beginRaise_travels s
    · exact beginLower_travels s
    · exact beginRaise_travels s
    · exact beginRaise_travels s

/-! ### The scheduler's transitions write its record, the passes and the flags alone -/

/-- `t` is `s` but for the scheduler record, the pass lists and the ports. -/
def Scheduled (s t : State) : Prop := ∃ sched passes ports, t = { s with sched := sched, passes := passes, ports := ports }

theorem Scheduled.refl (s : State) : Scheduled s s := ⟨_, _, _, rfl⟩

theorem Scheduled.trans : Scheduled s t → Scheduled t u → Scheduled s u := by
  rintro ⟨_, _, _, rfl⟩ ⟨a, b, c, rfl⟩; exact ⟨a, b, c, rfl⟩

theorem raise_scheduled (f : EventFlag) (s : State) : Scheduled s (raise f s) := ⟨_, _, _, rfl⟩

theorem setSched_scheduled (x : Sched) (s : State) : Scheduled s { s with sched := x } := ⟨_, _, _, rfl⟩

theorem enterState_scheduled (st : SchedState) (s : State) : Scheduled s (enterState st s) := by
  unfold enterState; dsimp only; split <;> exact ⟨_, _, _, rfl⟩

theorem startRound_scheduled (s : State) : Scheduled s (startRound s) := by
  rw [startRound_eq]; exact ⟨_, _, _, rfl⟩

theorem wake_scheduled (s : State) : Scheduled s (wake s) := by
  unfold wake; split
  · exact (enterState_scheduled _ s).trans (startRound_scheduled _)
  · exact (enterState_scheduled _ s).trans (startRound_scheduled _)
  all_goals exact ⟨_, _, _, rfl⟩

theorem resumeWalk_scheduled (s : State) : Scheduled s (resumeWalk s) := by
  unfold resumeWalk; dsimp only; split
  · exact (enterState_scheduled _ s).trans (startRound_scheduled _)
  · exact (enterState_scheduled _ s).trans (setSched_scheduled _ _)

theorem endRound_scheduled (s : State) : Scheduled s (endRound s) := by
  unfold endRound; dsimp only; split
  · exact startRound_scheduled s
  · split <;> exact (setSched_scheduled _ s).trans (enterState_scheduled _ _)

theorem moveCursor_scheduled (s : State) : Scheduled s (moveCursor s) := by
  unfold moveCursor; split <;> exact ⟨_, _, _, rfl⟩

theorem moveOn_scheduled (s : State) : Scheduled s (moveOn s) := by
  unfold moveOn; split
  · exact moveCursor_scheduled s
  · exact (moveCursor_scheduled s).trans (endRound_scheduled _)

theorem walkOn_scheduled (s : State) : Scheduled s (walkOn s) := by
  unfold walkOn; split
  · exact (setSched_scheduled _ s).trans ((moveCursor_scheduled _).trans (enterState_scheduled _ _))
  · exact (setSched_scheduled _ s).trans ((enterState_scheduled _ _).trans (moveOn_scheduled _))

theorem raiseHalt_scheduled (c : HaltCause) (s : State) : Scheduled s (raiseHalt c s) := by
  unfold raiseHalt; dsimp only; split
  · exact .refl s
  · split
    · split
      · exact .refl s
      · exact (setSched_scheduled _ s).trans (raise_scheduled _ _)
    · exact (setSched_scheduled _ s).trans (enterState_scheduled _ _)

theorem stopSchedule_scheduled (s : State) : Scheduled s (stopSchedule s) :=
  (setSched_scheduled _ s).trans (enterState_scheduled _ _)

theorem afterImmediate_scheduled (k : After) (s : State) : Scheduled s (afterImmediate k s) := by
  unfold afterImmediate; split
  · split
    · exact raiseHalt_scheduled _ s
    · exact walkOn_scheduled s
  · exact stopSchedule_scheduled s
  · exact walkOn_scheduled s

/-! ### The scheduler's state and active order after its transitions -/

@[simp] theorem enterState_sched (st : SchedState) (s : State) : (enterState st s).sched = { s.sched with state := st } := by
  unfold enterState; dsimp only; split <;> rfl

@[simp] theorem startRound_state (s : State) : (startRound s).sched.state = s.sched.state := by rw [startRound_eq]; rfl
@[simp] theorem startRound_active (s : State) : (startRound s).sched.active = s.sched.active := by rw [startRound_eq]; rfl

@[simp] theorem moveCursor_state (s : State) : (moveCursor s).sched.state = s.sched.state := by
  unfold moveCursor; split <;> rfl
@[simp] theorem moveCursor_active (s : State) : (moveCursor s).sched.active = s.sched.active := by
  unfold moveCursor; split <;> rfl

@[simp] theorem endRound_active (s : State) : (endRound s).sched.active = s.sched.active := by
  unfold endRound; dsimp only; split
  · simp
  · split <;> simp

theorem endRound_not_pour (e : s.sched.state.isPour = false) : (endRound s).sched.state.isPour = false := by
  unfold endRound; dsimp only; split
  · simpa using e
  · split <;> simp [SchedState.isPour]

@[simp] theorem moveOn_active (s : State) : (moveOn s).sched.active = s.sched.active := by
  unfold moveOn; split <;> simp

theorem moveOn_not_pour (e : s.sched.state.isPour = false) : (moveOn s).sched.state.isPour = false := by
  unfold moveOn; split
  · simpa using e
  · exact endRound_not_pour (by simpa using e)

theorem walkOn_active (s : State) : (walkOn s).sched.active = none := by
  unfold walkOn; split <;> simp

theorem walkOn_not_pour (s : State) : (walkOn s).sched.state.isPour = false := by
  unfold walkOn; split
  · simp [SchedState.isPour]
  · exact moveOn_not_pour (by simp [SchedState.isPour])

@[simp] theorem wake_active (s : State) : (wake s).sched.active = s.sched.active := by
  unfold wake; split <;> simp

theorem wake_isPour (s : State) : (wake s).sched.state.isPour = s.sched.state.isPour := by
  unfold wake; split <;> simp_all [SchedState.isPour]

theorem wake_stopped (e : s.sched.state = .stopped) : wake s = s := by
  simp [wake, e]

theorem resumeWalk_state (s : State) : (resumeWalk s).sched.state = .seeking := by
  unfold resumeWalk; dsimp only; split <;> simp

theorem resumeWalk_active (s : State) : (resumeWalk s).sched.active = s.sched.active := by
  unfold resumeWalk; dsimp only; split <;> simp

end Sys2Proof.Machine
end

section
/-! The law of the active order (R25, R41) and the law of the belt run line (R63) through every operation that commands share. `Runs s t`
says that an operation that leads from `s` to `t` keeps both and frees no slot of the order pool. An operation that ends no pour is
`Calm`; one that does passes through a state in which the pour is `Over`. -/

set_option Elab.async false

namespace Sys2Proof.Machine

variable {s t u : State}

theorem State.order_of_orders (e : t.orders = s.orders) (o : OrderId) : t.order o = s.order o := by
  simp [State.order, e]

theorem Travels.orders (h : Travels s t) : t.orders = s.orders := by obtain ⟨_, _, rfl⟩ := h; rfl
theorem Scheduled.orders (h : Scheduled s t) : t.orders = s.orders := by obtain ⟨_, _, _, rfl⟩ := h; rfl

/-! ### The conditions of the run line -/

/-- A hold's hatch opening and the two positions decide whether the spout is over the hold (R5, R63). -/
theorem overHold_congr {h : HoldId} (declared : (t.hold h).declared = (s.hold h).declared)
    (geom : (t.hold h).geom = (s.hold h).geom) (offset : t.ship.offset = s.ship.offset)
    (heading : t.ship.heading = s.ship.heading)
    (margin : t.settings.hatchMargin = s.settings.hatchMargin)
    (gantry : t.axes.gantry.position = s.axes.gantry.position)
    (reach : t.axes.reach.position = s.axes.reach.position) : t.overHold h = s.overHold h := by
  simp only [State.overHold, State.inOpening, State.openingX, State.openingY, State.span, State.quayX, declared, geom, offset,
    heading, margin, gantry, reach]

theorem pourOrder_congr (state : t.sched.state = s.sched.state) (active : t.sched.active = s.sched.active) :
    t.pourOrder = s.pourOrder := by
  simp only [State.pourOrder, state, active]

theorem pourHold_congr (state : t.sched.state = s.sched.state) (active : t.sched.active = s.sched.active)
    (order : ∀ o, (t.order o).hold = (s.order o).hold) : t.pourHold = s.pourHold := by
  simp only [State.pourHold, pourOrder_congr state active, order]

theorem runWanted_congr (state : t.sched.state = s.sched.state) (hold : t.pourHold = s.pourHold)
    (opening : ∀ h, s.pourHold = some h → t.overHold h = s.overHold h) : t.runWanted = s.runWanted := by
  simp only [State.runWanted, state, hold]
  cases e : s.pourHold with
  | none => rfl
  | some h => simp only [opening h e]

theorem runWanted_isPour (h : s.runWanted = true) : s.sched.state.isPour = true := by
  unfold State.runWanted at h
  cases e : s.sched.state <;> simp_all [SchedState.isPour]

theorem pourHold_of_runWanted (h : s.runWanted = true) : ∃ k, s.pourHold = some k ∧ s.overHold k = true := by
  unfold State.runWanted at h
  split at h <;> simp_all

/-- Outside a pour the run line is deasserted (R63). -/
theorem RunLineLaw.off (h : RunLineLaw s) (e : s.sched.state.isPour = false) : s.pour.runLine = false := by
  rw [← Bool.not_eq_true]
  intro on
  rw [runWanted_isPour (h on)] at e
  cases e

theorem RunLineLaw.of_off (e : s.pour.runLine = false) : RunLineLaw s := by
  intro on; rw [e] at on; cases on

/-- Setting the run line anew makes its law hold, whatever the state before (R63). -/
theorem setRunLine_law (s : State) : RunLineLaw (setRunLine s) := by
  unfold setRunLine
  split
  · next w =>
    split
    · exact fun _ => w
    · split <;> exact fun _ => w
  · exact .of_off rfl

/-! ### Operations that end no pour -/

/-- An operation that leaves the active order, the states of the orders and the vessel as they are, and neither begins nor ends a
pour. -/
structure Calm (s t : State) : Prop where
  order : ∀ o, (t.order o).state = (s.order o).state
  active : t.sched.active = s.sched.active
  vessel : t.vesselOpen = s.vesselOpen
  isPour : t.sched.state.isPour = s.sched.state.isPour
  stopped : s.sched.state = .stopped → t.sched.state = .stopped

theorem Calm.refl (s : State) : Calm s s := ⟨fun _ => rfl, rfl, rfl, rfl, id⟩

theorem Calm.trans (a : Calm s t) (b : Calm t u) : Calm s u :=
  ⟨fun o => (b.order o).trans (a.order o), b.active.trans a.active, b.vessel.trans a.vessel, b.isPour.trans a.isPour,
    b.stopped ∘ a.stopped⟩

theorem Calm.activeLaw (c : Calm s t) (h : ActiveLaw s) : ActiveLaw t := by
  obtain ⟨pour, order, closed⟩ := h
  refine ⟨?_, fun o => ?_, fun v => c.stopped (closed (c.vessel ▸ v))⟩
  · rw [c.isPour, c.active]; exact pour
  · rw [c.order, c.active]; exact order o

/-- No slot of the order pool has become FREE. -/
def Unfreed (s t : State) : Prop := ∀ o, (t.order o).state = .free → (s.order o).state = .free

theorem Unfreed.trans (a : Unfreed s t) (b : Unfreed t u) : Unfreed s u := fun o h => a o (b o h)

theorem Unfreed.of_orders (e : t.orders = s.orders) : Unfreed s t := fun o h => by
  rwa [State.order_of_orders e] at h

theorem Calm.unfreed (c : Calm s t) : Unfreed s t := fun o h => by rwa [c.order] at h

/-- An operation that keeps the law of the active order and, with it, the law of the run line, and frees no slot. -/
structure Runs (s t : State) : Prop where
  active : ActiveLaw s → ActiveLaw t
  line : ActiveLaw s → RunLineLaw s → RunLineLaw t
  unfreed : Unfreed s t

theorem Runs.refl (s : State) : Runs s s := ⟨id, fun _ => id, fun _ => id⟩

theorem Runs.trans (a : Runs s t) (b : Runs t u) : Runs s u :=
  ⟨b.active ∘ a.active, fun h l => b.line (a.active h) (a.line h l), a.unfreed.trans b.unfreed⟩

theorem Calm.runs (c : Calm s t) (line : ActiveLaw s → RunLineLaw s → RunLineLaw t) : Runs s t :=
  ⟨c.activeLaw, line, c.unfreed⟩

/-- Outside a pour a calm operation that leaves the run line alone keeps its law. -/
theorem Calm.runs_of_not_pour (c : Calm s t) (e : s.sched.state.isPour = false)
    (line : t.pour.runLine = s.pour.runLine) : Runs s t :=
  c.runs fun _ l => .of_off (line.trans (l.off e))

/-- A calm operation after which the run line is set anew. -/
theorem Calm.setRunLine (c : Calm s t) : Runs s (setRunLine t) := by
  have d : Calm t (Machine.setRunLine t) := by
    unfold Machine.setRunLine
    split
    · split
      · exact .refl t
      · split <;> exact ⟨fun _ => rfl, rfl, rfl, rfl, id⟩
    · exact ⟨fun _ => rfl, rfl, rfl, rfl, id⟩
  exact (c.trans d).runs fun _ _ => setRunLine_law t

/-- A state that agrees with another in everything the two laws speak of; each premise is closed by `rfl` where the states agree by
form. -/
theorem Runs.of (order : ∀ o, (t.order o).state = (s.order o).state ∧ (t.order o).hold = (s.order o).hold := by
      exact fun _ => ⟨rfl, rfl⟩)
    (state : t.sched.state = s.sched.state := by rfl) (active : t.sched.active = s.sched.active := by rfl)
    (ship : t.ship.vessel = s.ship.vessel ∧ t.ship.offset = s.ship.offset ∧ t.ship.heading = s.ship.heading := by
      exact ⟨rfl, rfl, rfl⟩)
    (hold : ∀ h, (t.hold h).declared = (s.hold h).declared ∧ (t.hold h).geom = (s.hold h).geom := by
      exact fun _ => ⟨rfl, rfl⟩)
    (margin : t.settings.hatchMargin = s.settings.hatchMargin := by rfl)
    (runLine : t.pour.runLine = s.pour.runLine := by rfl)
    (gantry : t.axes.gantry.position = s.axes.gantry.position := by rfl)
    (reach : t.axes.reach.position = s.axes.reach.position := by rfl) : Runs s t := by
  have c : Calm s t :=
    ⟨fun o => (order o).1, active, by simp only [State.vesselOpen, ship.1], by rw [state], fun e => state.trans e⟩
  have w : t.runWanted = s.runWanted :=
    runWanted_congr state (pourHold_congr state active fun o => (order o).2)
      fun h _ => overHold_congr (hold h).1 (hold h).2 ship.2.1 ship.2.2 margin gantry reach
  exact c.runs fun _ l on => w.trans (l (runLine ▸ on))

/-- A travel operation gives its axes moves; no position changes by it. -/
theorem Travels.runs (h : Travels s t) (k : Kept s t) : Runs s t := by
  have gantry := (k.axis .gantry).position
  have reach := (k.axis .reach).position
  obtain ⟨axes, spout, rfl⟩ := h
  exact Runs.of (gantry := gantry) (reach := reach)

theorem Travels.calm (h : Travels s t) : Calm s t := by
  obtain ⟨axes, spout, rfl⟩ := h
  exact ⟨fun _ => rfl, rfl, rfl, rfl, id⟩

/-- A transition of the scheduler that neither begins nor ends a pour. -/
theorem Scheduled.calm (h : Scheduled s t) (active : t.sched.active = s.sched.active)
    (isPour : t.sched.state.isPour = s.sched.state.isPour)
    (stopped : s.sched.state = .stopped → t.sched.state = .stopped) : Calm s t := by
  obtain ⟨sched, passes, ports, rfl⟩ := h
  exact ⟨fun _ => rfl, active, rfl, isPour, stopped⟩

theorem Scheduled.runLine (h : Scheduled s t) : t.pour.runLine = s.pour.runLine := by
  obtain ⟨_, _, _, rfl⟩ := h; rfl

theorem raise_runs (f : EventFlag) (s : State) : Runs s (raise f s) := Runs.of

theorem wake_runs (s : State) : Runs s (wake s) := by
  have c : Calm s (wake s) :=
    (wake_scheduled s).calm (wake_active s) (wake_isPour s) fun e => by rw [wake_stopped e]; exact e
  cases e : s.sched.state.isPour with
  | false => exact c.runs_of_not_pour e (wake_scheduled s).runLine
  | true => rw [wake_pour e]; exact .refl s

theorem enterState_calm {st : SchedState} (e : st.isPour = true) (f : s.sched.state.isPour = true) :
    Calm s (enterState st s) :=
  (enterState_scheduled st s).calm (by simp) (by simp [e, f]) fun k => by rw [k] at f; cases f

theorem commitAmendments_orders (s : State) : (commitAmendments s).orders = s.orders := by
  unfold commitAmendments; dsimp only; split
  · exact (wake_scheduled _).orders
  · rfl

theorem commitAmendments_calm (s : State) : Calm s (commitAmendments s) := by
  have c : Calm s { s with holds := tabulate fun h => (s.hold h).commit, ship := s.ship.commit } := by
    refine ⟨fun _ => rfl, rfl, ?_, rfl, id⟩
    simp only [State.vesselOpen, (Ship.Kept.fields (.inr rfl) : s.ship.commit.vessel = s.ship.vessel ∧ _).1]
  unfold commitAmendments; dsimp only; split
  · exact c.trans ((wake_scheduled _).calm (wake_active _) (wake_isPour _) fun e => by rw [wake_stopped e]; exact e)
  · exact c

theorem commitAmendments_runLine (s : State) : (commitAmendments s).pour.runLine = s.pour.runLine := by
  unfold commitAmendments; dsimp only; split
  · exact (wake_scheduled _).runLine
  · rfl

theorem boundaryTest_runs (s : State) : Runs s (boundaryTest s) := by
  unfold boundaryTest; split
  · exact .refl s
  · next e => exact (commitAmendments_calm s).runs_of_not_pour (by simpa using e) (commitAmendments_runLine s)

/-- The run line is deasserted on the way into PAUSED (R68). -/
theorem enterPaused_runs (ret : ReturnState) (e : s.sched.state.isPour = true) : Runs s (enterPaused ret s) :=
  Runs.trans
    ((enterState_calm rfl e).trans ((stopAxes_travels _).trans (abandonTravel_travels _)).calm).setRunLine Runs.of

theorem enterFeeding_runs {st : SchedState} (f : st.isPour = true) (e : s.sched.state.isPour = true) :
    Runs s (enterFeeding st s) :=
  (enterState_calm f e).setRunLine.trans ((track_travels _).runs (track_kept _))

/-! ### The end of a pour -/

/-- A pour is over and the scheduler has still to go on: no order is ACTIVE, and a vessel is open. -/
structure Over (s : State) : Prop where
  idle : ∀ o, (s.order o).state ≠ .active
  vessel : s.vesselOpen = true

theorem Over.calm (v : Over s) (c : Calm s t) : Over t :=
  ⟨fun o => by rw [c.order]; exact v.idle o, c.vessel.trans v.vessel⟩

theorem Over.scheduled (v : Over s) (h : Scheduled s t) : Over t := by
  obtain ⟨_, _, _, rfl⟩ := h; exact ⟨v.idle, v.vessel⟩

/-- Outside a pour with no order ACTIVE the law of the active order holds. -/
theorem activeLaw_of_idle (idle : ∀ o, (s.order o).state ≠ .active) (active : s.sched.active = none)
    (rest : s.sched.state.isPour = false) (closed : s.vesselOpen = false → s.sched.state = .stopped) : ActiveLaw s :=
  ⟨by simp [active, rest], fun o => by simp [active, idle o], closed⟩

theorem Over.activeLaw (v : Over s) (active : s.sched.active = none) (rest : s.sched.state.isPour = false) :
    ActiveLaw s :=
  activeLaw_of_idle v.idle active rest fun c => by rw [v.vessel] at c; cases c

theorem ActiveLaw.idle (h : ActiveLaw s) (e : s.sched.state.isPour = false) :
    s.sched.active = none ∧ ∀ o, (s.order o).state ≠ .active := by
  obtain ⟨pour, order, -⟩ := h
  have a : s.sched.active = none := by
    rw [← Option.not_isSome_iff_eq_none, ← pour, e]; simp
  exact ⟨a, fun o k => by rw [order, a] at k; cases k⟩

theorem ActiveLaw.vesselOpen (h : ActiveLaw s) (e : s.sched.state ≠ .stopped) : s.vesselOpen = true := by
  obtain ⟨-, -, closed⟩ := h
  rw [← Bool.not_eq_false]; exact fun c => e (closed c)

theorem ActiveLaw.vesselOpen_of_pour (h : ActiveLaw s) (e : s.sched.state.isPour = true) : s.vesselOpen = true :=
  h.vesselOpen fun k => by rw [k] at e; cases e

theorem walkOn_activeLaw (v : Over s) : ActiveLaw (walkOn s) :=
  (v.scheduled (walkOn_scheduled s)).activeLaw (walkOn_active s) (walkOn_not_pour s)

theorem rested_activeLaw {st : SchedState} {c : HaltSet} (v : Over s) (e : st.isPour = false) :
    ActiveLaw (s.rested st c) :=
  Over.activeLaw ⟨v.idle, v.vessel⟩ rfl e

/-- The scheduler after an immediate end (R54). -/
theorem afterImmediate_activeLaw (k : After) (v : Over s) (e : s.sched.state.isPour = true) :
    ActiveLaw (afterImmediate k s) := by
  cases k with
  | halt c =>
    simp only [afterImmediate, v.vessel, if_true, raiseHalt_eq v.vessel e]
    exact rested_activeLaw v rfl
  | haltSchedule =>
    simp only [afterImmediate, stopSchedule_eq e]
    exact rested_activeLaw v rfl
  | walk => exact walkOn_activeLaw v

theorem Order.immediate_state (c : ImmediateCause) (r : Order) :
    (r.immediate c).state = .ready ∨ (r.immediate c).state = .stalled := by
  cases c with
  | yield => exact .inl rfl
  | fault k =>
    by_cases h : r.retryLimit ≠ 0 ∧ r.retriesLeft ≤ 1
    · right; simp only [Order.immediate, if_pos h]
    · left; simp only [Order.immediate, if_neg h]

/-- What an end writes to the order pool: the record of one order, and the last-ended id, the queues and the flags. -/
def Ends (o : OrderId) (x : Order) (s t : State) : Prop :=
  ∃ queues lastEnded ports, t = { s.setOrder o x with queues := queues, lastEnded := lastEnded, ports := ports }

theorem recordImmediate_ends (o : OrderId) (c : ImmediateCause) (s : State) :
    Ends o ((s.order o).immediate c) s (recordImmediate o c s) := by
  unfold recordImmediate; dsimp only; split <;> exact ⟨_, _, _, rfl⟩

theorem finishOrder_ends (o : OrderId) (c : EndCause) (s : State) :
    Ends o { s.order o with state := c.finished, lastEnd := some c.lastEnd } s (finishOrder o c s) := by
  unfold finishOrder notifyEnd dequeue
  split <;> split <;> exact ⟨_, _, _, rfl⟩

theorem Ends.unfreed {o : OrderId} {x : Order} (h : Ends o x s t) (e : x.state ≠ .free) : Unfreed s t := by
  obtain ⟨_, _, _, rfl⟩ := h
  intro k f
  change ((s.setOrder o x).order k).state = .free at f
  rw [State.order_setOrder] at f
  split at f
  · exact absurd f e
  · exact f

theorem State.setOrder_not_active {o : OrderId} {x : Order} (h : ActiveLaw s) (a : s.sched.active = some o)
    (e : x.state ≠ .active) (k : OrderId) : ((s.setOrder o x).order k).state ≠ .active := by
  rw [State.order_setOrder]
  split
  · exact e
  · next n =>
    intro f
    rw [(h.2.1 k), a] at f
    exact n (Option.some.inj f).symm

/-- The end of the active order's pour, its order no longer ACTIVE, before the scheduler goes on (R60, R75, R76). -/
theorem Ends.over {o : OrderId} {x : Order} (h : ActiveLaw s) (p : s.pourOrder = some o) (e : x.state ≠ .active)
    (d : Ends o x (endTravel (stopAxes s)) t) :
    Over (commitAmendments (clearPour t)) ∧ (commitAmendments (clearPour t)).pour.runLine = false ∧
      (commitAmendments (clearPour t)).sched.state = s.sched.state := by
  have q := isPour_of_pourOrder p
  have a := active_of_pourOrder p
  obtain ⟨queues, lastEnded, ports, rfl⟩ := d
  have v : Over (clearPour { (endTravel (stopAxes s)).setOrder o x with
      queues := queues, lastEnded := lastEnded, ports := ports }) :=
    ⟨State.setOrder_not_active h a e, h.vesselOpen_of_pour q⟩
  refine ⟨v.calm (commitAmendments_calm _), commitAmendments_runLine _, ?_⟩
  rw [commitAmendments_pour (by exact q)]; rfl

theorem immediateEnd_over {o : OrderId} (c : ImmediateCause) (h : ActiveLaw s) (p : s.pourOrder = some o) :
    ∃ t, Over t ∧ t.pour.runLine = false ∧ t.sched.state = s.sched.state ∧
      ∀ k, immediateEnd c k s = afterImmediate k t := by
  have e : ((s.order o).immediate c).state ≠ .active := by
    rcases Order.immediate_state c (s.order o) with e | e <;> rw [e] <;> nofun
  obtain ⟨v, l, st⟩ := Ends.over h p e (recordImmediate_ends o c (endTravel (stopAxes s)))
  exact ⟨_, v, l, st, fun k => by simp only [immediateEnd, p]⟩

theorem immediateEnd_unfreed (c : ImmediateCause) (k : After) (s : State) : Unfreed s (immediateEnd c k s) := by
  unfold immediateEnd
  split
  · next o _ =>
    have e : ((s.order o).immediate c).state ≠ .free := by
      rcases Order.immediate_state c (s.order o) with e | e <;> rw [e] <;> nofun
    have a : Unfreed s (recordImmediate o c (endTravel (stopAxes s))) :=
      (recordImmediate_ends o c (endTravel (stopAxes s))).unfreed e
    exact a.trans (Unfreed.of_orders
      ((afterImmediate_scheduled k _).orders.trans (commitAmendments_orders _)))
  · exact fun _ => id

/-- An immediate end leaves the run line deasserted (R60, R76). -/
theorem immediateEnd_line {o : OrderId} (c : ImmediateCause) (k : After) (h : ActiveLaw s) (p : s.pourOrder = some o) :
    RunLineLaw (immediateEnd c k s) := by
  obtain ⟨t, -, l, -, e⟩ := immediateEnd_over c h p
  rw [e]
  exact .of_off ((afterImmediate_scheduled k t).runLine.trans l)

theorem immediateEnd_activeLaw (c : ImmediateCause) (k : After) (h : ActiveLaw s) : ActiveLaw (immediateEnd c k s) := by
  cases p : s.pourOrder with
  | none => simpa only [immediateEnd, p] using h
  | some o =>
    obtain ⟨t, v, -, st, e⟩ := immediateEnd_over c h p
    rw [e]
    exact afterImmediate_activeLaw k v (st ▸ isPour_of_pourOrder p)

theorem immediateEnd_runs (c : ImmediateCause) (k : After) (s : State) : Runs s (immediateEnd c k s) := by
  refine ⟨immediateEnd_activeLaw c k, fun h l => ?_, immediateEnd_unfreed c k s⟩
  cases p : s.pourOrder with
  | none => simpa only [immediateEnd, p] using l
  | some o => exact immediateEnd_line c k h p

theorem Scheduled.idle (h : Scheduled s t) (i : ∀ o, (s.order o).state ≠ .active) (o : OrderId) :
    (t.order o).state ≠ .active := by
  rw [State.order_of_orders h.orders]; exact i o

theorem Scheduled.vesselOpen (h : Scheduled s t) : t.vesselOpen = s.vesselOpen := by obtain ⟨_, _, _, rfl⟩ := h; rfl

theorem raiseHalt_sched (c : HaltCause) (e : s.vesselOpen = true) :
    (raiseHalt c s).sched.state = .halted ∧
      ((raiseHalt c s).sched.active = none ∨ (raiseHalt c s).sched.active = s.sched.active) := by
  unfold raiseHalt; dsimp only
  simp only [e, Bool.not_true, Bool.false_eq_true, if_false]
  split
  · next k => split <;> exact ⟨k, .inr rfl⟩
  · exact ⟨by simp, .inl (by simp [clearHeld])⟩

/-- A halt cause that arises outside a pour (R57). -/
theorem raiseHalt_runs (c : HaltCause) (e : s.sched.state.isPour = false) : Runs s (raiseHalt c s) := by
  have f := raiseHalt_scheduled c s
  refine ⟨fun h => ?_, fun _ l => .of_off (f.runLine.trans (l.off e)), .of_orders f.orders⟩
  obtain ⟨a, i⟩ := h.idle e
  cases v : s.vesselOpen with
  | false => simpa [raiseHalt, v] using h
  | true =>
    obtain ⟨st, act⟩ := raiseHalt_sched c v
    exact activeLaw_of_idle (f.idle i) (by rcases act with k | k <;> rw [k]; exact a) (by rw [st]; rfl)
      fun n => by rw [f.vesselOpen, v] at n; cases n

theorem stopSchedule_runs (e : s.sched.state.isPour = false) : Runs s (stopSchedule s) := by
  have f := stopSchedule_scheduled s
  exact ⟨fun h => activeLaw_of_idle (f.idle (h.idle e).2) (by simp [stopSchedule, clearHeld])
      (by simp [stopSchedule, SchedState.isPour]) fun _ => by simp [stopSchedule],
    fun _ l => .of_off (f.runLine.trans (l.off e)), .of_orders f.orders⟩

theorem pourOrder_isSome_iff (h : ActiveLaw s) : s.pourOrder.isSome = s.sched.state.isPour := by
  unfold State.pourOrder
  cases e : s.sched.state.isPour with
  | false => rfl
  | true => exact h.1.mp e

theorem haltWith_runs (c : ImmediateCause) (k : HaltCause) (s : State) : Runs s (haltWith c k s) := by
  unfold haltWith
  split
  · exact immediateEnd_runs ..
  · next e =>
    have np : ActiveLaw s → s.sched.state.isPour = false := fun h => by
      rw [← pourOrder_isSome_iff h]; simpa using e
    exact ⟨fun h => (raiseHalt_runs k (np h)).active h, fun h => (raiseHalt_runs k (np h)).line h,
      .of_orders (raiseHalt_scheduled k s).orders⟩

/-! ### Finalisation and activation -/

theorem EndCause.finished_not (c : EndCause) : c.finished ≠ .active ∧ c.finished ≠ .free := by cases c <;> decide

/-- How the scheduler goes on after a finalisation that has left `t` (R54, R55): the order to be activated next, or the walk. -/
def goOn (t : State) (next : Option OrderId) : State × Option OrderId :=
  if t.sched.stepFlag then (walkOn t, none)
  else
    match next with
    | some n => ({ t with sched.active := none }, some n)
    | none => (walkOn t, none)

theorem finaliseStep_eq {o : OrderId} (c : EndCause) (p : s.pourOrder = some o) :
    finaliseStep c s =
      let t := commitAmendments (clearPour (finishOrder o c (endTravel (stopAxes s))))
      goOn t ((s.order o).hold.bind (t.continueWith (s.order o) c)) := by
  simp only [finaliseStep, p]; rfl

theorem goOn_orders (t : State) (next : Option OrderId) : (goOn t next).1.orders = t.orders := by
  unfold goOn; split
  · exact (walkOn_scheduled t).orders
  · split
    · rfl
    · exact (walkOn_scheduled t).orders

theorem goOn_runLine (t : State) (next : Option OrderId) : (goOn t next).1.pour.runLine = t.pour.runLine := by
  unfold goOn; split
  · exact (walkOn_scheduled t).runLine
  · split
    · rfl
    · exact (walkOn_scheduled t).runLine

theorem goOn_laws (next : Option OrderId) (v : Over t) :
    ((goOn t next).2 ≠ none → Over (goOn t next).1) ∧ ((goOn t next).2 = none → ActiveLaw (goOn t next).1) := by
  unfold goOn; split
  · exact ⟨fun k => absurd rfl k, fun _ => walkOn_activeLaw v⟩
  · split
    · exact ⟨fun _ => ⟨v.idle, v.vessel⟩, nofun⟩
    · exact ⟨fun k => absurd rfl k, fun _ => walkOn_activeLaw v⟩

theorem finaliseStep_unfreed (c : EndCause) (s : State) : Unfreed s (finaliseStep c s).1 := by
  cases p : s.pourOrder with
  | none => simp only [finaliseStep, p]; exact fun _ => id
  | some o =>
    have a : Unfreed s (finishOrder o c (endTravel (stopAxes s))) :=
      (finishOrder_ends o c (endTravel (stopAxes s))).unfreed (EndCause.finished_not c).2
    rw [finaliseStep_eq c p]
    exact a.trans (.of_orders ((goOn_orders _ _).trans (commitAmendments_orders _)))

/-- A finalisation that hands on leaves the pour over; one that does not leaves the scheduler walking on. -/
theorem finaliseStep_laws (c : EndCause) (h : ActiveLaw s) :
    ((finaliseStep c s).2 ≠ none → Over (finaliseStep c s).1) ∧
      ((finaliseStep c s).2 = none → ActiveLaw (finaliseStep c s).1) := by
  cases p : s.pourOrder with
  | none => simp only [finaliseStep, p]; exact ⟨fun k => absurd rfl k, fun _ => h⟩
  | some o =>
    rw [finaliseStep_eq c p]
    exact goOn_laws _ (Ends.over h p (EndCause.finished_not c).1 (finishOrder_ends o c (endTravel (stopAxes s)))).1

/-- A finalisation leaves the run line deasserted (R60, R75). -/
theorem finaliseStep_runLine {o : OrderId} (c : EndCause) (h : ActiveLaw s) (p : s.pourOrder = some o) :
    (finaliseStep c s).1.pour.runLine = false := by
  rw [finaliseStep_eq c p]
  exact (goOn_runLine _ _).trans
    (Ends.over h p (EndCause.finished_not c).1 (finishOrder_ends o c (endTravel (stopAxes s)))).2.1

/-- The state in which the pour of order `o` of hold `h` begins (R52, R61, R141). -/
def pourBegun (o : OrderId) (h : HoldId) (s : State) : State :=
  enterState .travelling { clearPour (s.setOrder o { s.order o with state := .active }) with
    sched := { s.sched with active := some o, progress := true }
    belt := { s.belt with lastHold := some h } }

theorem pourBegun_orders (o : OrderId) (h : HoldId) (s : State) :
    (pourBegun o h s).orders = (s.setOrder o { s.order o with state := .active }).orders :=
  (enterState_scheduled _ _).orders

theorem pourBegun_unfreed (o : OrderId) (h : HoldId) (s : State) : Unfreed s (pourBegun o h s) := by
  intro k f
  rw [State.order_of_orders (pourBegun_orders o h s), State.order_setOrder] at f
  split at f
  · cases f
  · exact f

theorem pourBegun_laws (o : OrderId) (h : HoldId) (v : Over s) :
    ActiveLaw (pourBegun o h s) ∧ (pourBegun o h s).pour.runLine = false ∧ (pourBegun o h s).sched.state = .travelling := by
  refine ⟨⟨by simp [pourBegun, SchedState.isPour], fun k => ?_, fun c => ?_⟩,
    (enterState_scheduled _ _).runLine, by simp [pourBegun]⟩
  · rw [State.order_of_orders (pourBegun_orders o h s), State.order_setOrder]
    split
    · next e => simp [pourBegun, e]
    · next e => simp [pourBegun, v.idle k, Ne.symm e]
  · have w : (pourBegun o h s).vesselOpen = s.vesselOpen := (enterState_scheduled _ _).vesselOpen
    rw [w, v.vessel] at c; cases c

/-- `activateStep` of an order of hold `h`, from the state in which its pour begins. -/
theorem activateStep_eq {o : OrderId} {h : HoldId} (e : (s.order o).hold = some h) :
    activateStep o s =
      if (pourBegun o h s).axisFault then (immediateEnd (.fault .axis) (.halt .axis) (pourBegun o h s), false)
      else if (writeSpot h (s.order o).spot (pourBegun o h s)).pour.reasons.isEmpty then
        beginRaise (writeSpot h (s.order o).spot (pourBegun o h s))
      else (enterPaused .travelling
        { writeSpot h (s.order o).spot (pourBegun o h s) with spout.phase := .raise }, false) := by
  unfold activateStep
  split
  · next k => rw [e] at k; cases k
  · next k f => obtain rfl : k = h := Option.some.inj (f.symm.trans e); rfl

theorem activateStep_unfreed (o : OrderId) (s : State) : Unfreed s (activateStep o s).1 := by
  cases e : (s.order o).hold with
  | none => simp only [activateStep, e]; exact .of_orders (walkOn_scheduled s).orders
  | some h =>
    have a := pourBegun_unfreed o h s
    have b := a.trans (.of_orders (writeSpot_travels h (s.order o).spot (pourBegun o h s)).orders)
    rw [activateStep_eq e]
    split
    · exact a.trans (immediateEnd_unfreed _ _ _)
    · split
      · exact b.trans (.of_orders (beginRaise_travels _).orders)
      · refine b.trans (.of_orders ?_)
        have f := ((stopAxes_travels _).trans (abandonTravel_travels _)).orders.trans
          (enterState_scheduled .paused { writeSpot h (s.order o).spot (pourBegun o h s) with spout.phase := .raise }).orders
        refine Eq.trans ?_ f
        unfold enterPaused setRunLine
        dsimp only
        split
        · split
          · rfl
          · split <;> rfl
        · rfl

theorem Travels.runLine (h : Travels s t) : t.pour.runLine = s.pour.runLine := by obtain ⟨_, _, rfl⟩ := h; rfl
theorem Travels.sched (h : Travels s t) : t.sched = s.sched := by obtain ⟨_, _, rfl⟩ := h; rfl

/-- An activation keeps the laws; a pour whose travel completed at once is still in progress. -/
theorem activateStep_laws (o : OrderId) (v : Over s) :
    ActiveLaw (activateStep o s).1 ∧ (s.pour.runLine = false → RunLineLaw (activateStep o s).1) ∧
      ((activateStep o s).2 = true → (activateStep o s).1.sched.state = .travelling) := by
  cases e : (s.order o).hold with
  | none =>
    simp only [activateStep, e]
    exact ⟨walkOn_activeLaw v, fun l => .of_off ((walkOn_scheduled s).runLine.trans l), nofun⟩
  | some h =>
    obtain ⟨a, l, st⟩ := pourBegun_laws o h v
    rw [activateStep_eq e]
    split
    · exact ⟨immediateEnd_activeLaw _ _ a, fun _ => (immediateEnd_runs ..).line a (.of_off l), nofun⟩
    · have w := writeSpot_travels h (s.order o).spot (pourBegun o h s)
      split
      · have b := w.trans (beginRaise_travels _)
        exact ⟨b.calm.activeLaw a, fun _ => .of_off (b.runLine.trans l), fun _ => b.sched ▸ st⟩
      · have x : Travels (pourBegun o h s) { writeSpot h (s.order o).spot (pourBegun o h s) with spout.phase := .raise } :=
          w.trans ⟨_, _, rfl⟩
        have p := enterPaused_runs (s := { writeSpot h (s.order o).spot (pourBegun o h s) with spout.phase := .raise })
          .travelling (by rw [x.sched, st]; rfl)
        have y := x.calm.activeLaw a
        exact ⟨p.active y, fun _ => p.line y (.of_off (x.runLine.trans l)), nofun⟩

theorem setRunLine_orders (s : State) : (setRunLine s).orders = s.orders := by
  unfold setRunLine
  split
  · split
    · rfl
    · split <;> rfl
  · rfl

theorem enterFeeding_unfreed (st : SchedState) (s : State) : Unfreed s (enterFeeding st s) :=
  .of_orders ((track_travels _).orders.trans ((setRunLine_orders _).trans (enterState_scheduled st s).orders))

theorem runActivation_unfreed (n : Nat) (o : OrderId) (s : State) : Unfreed s (runActivation n o s) := by
  induction n generalizing o s with
  | zero => exact .of_orders (walkOn_scheduled s).orders
  | succ n ih =>
    have a := activateStep_unfreed o s
    unfold runActivation
    split
    · next t e => rw [e] at a; exact a
    · next t e =>
      rw [e] at a
      split
      · have f := finaliseStep_unfreed .complete t
        split
        · next u m e => rw [e] at f; exact a.trans (f.trans (ih m u))
        · next u e => rw [e] at f; exact a.trans f
      · exact a.trans (enterFeeding_unfreed _ _)

theorem pourOrder_of_active (h : ActiveLaw s) (e : s.sched.state.isPour = true) : ∃ o, s.pourOrder = some o :=
  Option.isSome_iff_exists.mp ((pourOrder_isSome_iff h).trans e)

theorem runActivation_laws (n : Nat) (o : OrderId) (v : Over s) :
    ActiveLaw (runActivation n o s) ∧ (s.pour.runLine = false → RunLineLaw (runActivation n o s)) := by
  induction n generalizing o s with
  | zero => exact ⟨walkOn_activeLaw v, fun l => .of_off ((walkOn_scheduled s).runLine.trans l)⟩
  | succ n ih =>
    obtain ⟨a, l, st⟩ := activateStep_laws o v
    unfold runActivation
    split
    · next t e => rw [e] at a l; exact ⟨a, l⟩
    · next t e =>
      rw [e] at a l st
      have q : t.sched.state.isPour = true := by rw [st rfl]; rfl
      split
      · obtain ⟨handsOn, walks⟩ := finaliseStep_laws .complete a
        obtain ⟨p, hp⟩ := pourOrder_of_active a q
        have off := finaliseStep_runLine .complete a hp
        split
        · next u m f =>
          rw [f] at handsOn off
          exact ⟨(ih m (handsOn nofun)).1, fun _ => (ih m (handsOn nofun)).2 off⟩
        · next u f => rw [f] at walks off; exact ⟨walks rfl, fun _ => .of_off off⟩
      · have g := enterFeeding_runs (s := t) (st := .pouring) rfl q
        exact ⟨g.active a, fun k => g.line a (l k)⟩

theorem activate_unfreed (o : OrderId) (s : State) : Unfreed s (activate o s) := runActivation_unfreed 65 o s

theorem activate_laws (o : OrderId) (v : Over s) :
    ActiveLaw (activate o s) ∧ (s.pour.runLine = false → RunLineLaw (activate o s)) :=
  runActivation_laws 65 o v

theorem finalise_runs (c : EndCause) (s : State) : Runs s (finalise c s) := by
  refine ⟨fun h => ?_, fun h l => ?_, ?_⟩
  · obtain ⟨handsOn, walks⟩ := finaliseStep_laws c h
    unfold finalise
    split
    · next v n e => rw [e] at handsOn; exact (activate_laws n (handsOn nofun)).1
    · next v e => rw [e] at walks; exact walks rfl
  · cases p : s.pourOrder with
    | none => simpa only [finalise, finaliseStep, p] using l
    | some o =>
      obtain ⟨handsOn, -⟩ := finaliseStep_laws c h
      have off := finaliseStep_runLine c h p
      unfold finalise
      split
      · next v n e => rw [e] at handsOn off; exact (activate_laws n (handsOn nofun)).2 off
      · next v e => rw [e] at off; exact .of_off off
  · have g := finaliseStep_unfreed c s
    unfold finalise
    split
    · next v n e => rw [e] at g; exact g.trans (activate_unfreed n v)
    · next v e => rw [e] at g; exact g

end Sys2Proof.Machine
end

section
/-! The laws of the active order (R25, R41), of the run line (R63) and of the orders' material (R31) through every operation of the
blocks. `Sustains s t` says that an operation keeps all three; one lemma per operation. -/

set_option Elab.async false

namespace Sys2Proof.Machine

variable {s t u : State}

/-! ### The shared operations -/

theorem finalisationTest_runs (s : State) : Runs s (finalisationTest s) := by
  unfold finalisationTest; split
  · exact finalise_runs _ s
  · exact .refl s

theorem travelComplete_runs (s : State) : Runs s (travelComplete s) := by
  unfold travelComplete
  split
  · exact .refl s
  · next o p =>
    have q := isPour_of_pourOrder p
    split
    · exact finalise_runs _ s
    · split
      · exact enterFeeding_runs rfl q
      · exact (enterFeeding_runs rfl q).trans (finalisationTest_runs _)

theorem settle_runs {r : State × Bool} (h : Runs s r.1) : Runs s (settle r) := by
  unfold settle; split
  · exact h.trans (travelComplete_runs _)
  · exact h

theorem recomputeTravel_runs (b : Bool) (s : State) : Runs s (recomputeTravel b s).1 :=
  (recomputeTravel_travels b s).runs (recomputeTravel_kept b s)

theorem recompute_runs (s : State) : Runs s (recompute s) := settle_runs (recomputeTravel_runs false s)

/-- The end cause of the pour record and its return state concern neither law. -/
theorem setEnd_runs (c : Option EndCause) (r : Option ReturnState) (s : State) :
    Runs s { s with pour.endCause := c, pour.returnState := r } := Runs.of

theorem orderlyEnd_runs (c : EndCause) (s : State) : Runs s (orderlyEnd c s) := by
  have record : ∀ c r, Runs s { s with pour := { s.pour with endCause := c, returnState := r } } :=
    fun c r => setEnd_runs c r s
  unfold orderlyEnd; dsimp only
  split
  · next e =>
    have drains : Calm { s with pour := { s.pour with endCause := some (combineCause s.pour.endCause c) } }
      (enterState .draining { s with pour := { s.pour with endCause := some (combineCause s.pour.endCause c) } }) :=
      enterState_calm rfl (by rw [e]; rfl)
    exact ((record _ _).trans drains.setRunLine).trans (finalisationTest_runs _)
  · split
    · exact finalise_runs _ s
    · exact record _ _
  · split
    · exact finalise_runs _ s
    · exact record _ _
  · split
    · exact finalise_runs _ s
    · exact record _ _
  · exact record _ _
  · exact record _ _
  · exact .refl s

theorem addReason_runs (c : PauseReason) (s : State) : Runs s (addReason c s) := by
  have a : Runs s { s with pour.reasons := s.pour.reasons.put c true } := Runs.of
  unfold addReason; dsimp only
  split
  · next e =>
    split
    · exact a.trans (enterPaused_runs _ (by rw [e]; rfl))
    · exact a
  · next e =>
    split
    · exact a.trans (enterPaused_runs _ (by rw [e]; rfl))
    · exact a
  · split
    · exact a.trans Runs.of
    · exact a
  all_goals exact a

/-- PAUSED is left for TRAVELLING with the run line deasserted (R68, R70). -/
theorem enterTravelling_runs (e : s.sched.state = .paused) : Runs s (enterState .travelling s) :=
  (enterState_calm rfl (by rw [e]; rfl)).runs fun _ l => .of_off <| by
    have off : s.pour.runLine = false := by
      rw [← Bool.not_eq_true]; intro on
      have w := l on
      simp [State.runWanted, e] at w
    exact (enterState_scheduled _ s).runLine.trans off

/-- A paused pour goes back to its travel (R70, R99). -/
theorem restartTravel_runs (seen : Bool) (e : s.sched.state = .paused) :
    Runs s (settle (restartTravel seen (enterState .travelling s))) :=
  (enterTravelling_runs e).trans (settle_runs ((restartTravel_travels seen _).runs (restartTravel_kept seen _)))

theorem leavePause_runs (e : s.sched.state = .paused) : Runs s (leavePause s) := by
  have a : Runs s { s with pour.returnState := none, pour.manualSeen := false } := Runs.of
  unfold leavePause; dsimp only at a ⊢
  generalize f : ({ s with pour := { s.pour with returnState := none, manualSeen := false } } : State) = t at a ⊢
  have p : t.sched.state = .paused := by rw [← f]; exact e
  have q : t.sched.state.isPour = true := by rw [p]; rfl
  split
  · exact a.trans (enterFeeding_runs rfl q)
  · exact a.trans ((enterFeeding_runs rfl q).trans (finalisationTest_runs _))
  · exact a.trans (restartTravel_runs _ p)
  · exact a.trans (restartTravel_runs _ p)
  · exact a.trans (restartTravel_runs _ p)
  · exact .refl s

theorem removeReason_runs (c : PauseReason) (s : State) : Runs s (removeReason c s) := by
  have a : Runs s { s with pour.reasons := s.pour.reasons.put c false } := Runs.of
  unfold removeReason; dsimp only
  split
  · next e => exact a.trans (leavePause_runs e.1)
  · exact a

theorem setAxis_runs (a : Axis) (r : AxisRec) (s : State) (e : r.position = (s.axis a).position) :
    Runs s (s.setAxis a r) := by
  cases a
  · exact Runs.of (gantry := e)
  · exact Runs.of (reach := e)
  · exact Runs.of

theorem failAxis_runs (a : Axis) (r : AxisReason) (s : State) : Runs s (failAxis a r s) := by
  unfold failAxis; split
  · exact .refl s
  · exact (setAxis_runs a ((s.axis a).fail r) s rfl).trans ((raise_runs _ _).trans (immediateEnd_runs ..))

theorem exclusionFormed_runs (m : HoldSet) (s : State) : Runs s (exclusionFormed m s) := by
  have a := (raise_runs .maskChanged s).trans (wake_runs _)
  unfold exclusionFormed; dsimp only
  split
  · exact .refl s
  · split
    · split
      · exact a.trans (immediateEnd_runs ..)
      · exact a
    · exact a

/-! ### With the material on the belt -/

/-- An operation that keeps the laws of the active order, of the run line and of the orders' material, and frees no slot. -/
structure Sustains (s t : State) : Prop extends Runs s t where
  transit : TransitLaw s → TransitLaw t

theorem Sustains.refl (s : State) : Sustains s s := ⟨.refl s, id⟩

theorem Sustains.trans (a : Sustains s t) (b : Sustains t u) : Sustains s u :=
  ⟨a.toRuns.trans b.toRuns, b.transit ∘ a.transit⟩

/-- The law of the orders' material speaks of the belt, the grant, the orders' tonnages and free slots, and the vessel (R31). -/
theorem TransitLaw.congr (h : TransitLaw s) (unfreed : Unfreed s t)
    (order : ∀ o, (t.order o).inTransit = (s.order o).inTransit ∧ (t.order o).granted = (s.order o).granted)
    (records : t.belt.records = s.belt.records) (grant : t.weigh.grant = s.weigh.grant)
    (vessel : t.vesselOpen = s.vesselOpen) : TransitLaw t := by
  obtain ⟨inTransit, granted, held, free, closed⟩ := h
  refine ⟨fun o => ?_, fun o => ?_, fun g e => ?_, fun o e => ?_, fun e => ?_⟩
  · rw [(order o).1, records]; exact inTransit o
  · rw [(order o).2, grant]; exact granted o
  · rw [grant] at e; exact ⟨(held g e).1, fun f => (held g e).2 (unfreed _ f)⟩
  · rw [(order o).1]; exact free o (unfreed o e)
  · rw [vessel] at e
    simpa only [State.beltClear, records, grant] using closed e

/-- What `Kept` lists covers the material on the belt. The operation may start from a state `u` that agrees with `s` in it. -/
theorem Sustains.of_kept (r : Runs s t) (k : Kept u t)
    (order : ∀ o, (u.order o).inTransit = (s.order o).inTransit ∧ (u.order o).granted = (s.order o).granted := by
      exact fun _ => ⟨rfl, rfl⟩)
    (records : u.belt.records = s.belt.records := by rfl) (grant : u.weigh.grant = s.weigh.grant := by rfl)
    (vessel : u.ship.vessel = s.ship.vessel := by rfl) : Sustains s t :=
  ⟨r, fun h => h.congr r.unfreed
    (fun o => ⟨(k.order o).inTransit.trans (order o).1, (k.order o).granted.trans (order o).2⟩) (k.records.trans records)
    (by rw [k.weigh, grant]) (by simp only [State.vesselOpen, k.ship.fields.1, vessel])⟩

/-- A state that agrees with another in everything the three laws speak of; each premise is closed by `rfl` where the states agree by
form. -/
theorem Sustains.of (order : ∀ o, (t.order o).state = (s.order o).state ∧ (t.order o).hold = (s.order o).hold ∧
      (t.order o).inTransit = (s.order o).inTransit ∧ (t.order o).granted = (s.order o).granted := by
      exact fun _ => ⟨rfl, rfl, rfl, rfl⟩)
    (state : t.sched.state = s.sched.state := by rfl) (active : t.sched.active = s.sched.active := by rfl)
    (ship : t.ship.vessel = s.ship.vessel ∧ t.ship.offset = s.ship.offset ∧ t.ship.heading = s.ship.heading := by
      exact ⟨rfl, rfl, rfl⟩)
    (hold : ∀ h, (t.hold h).declared = (s.hold h).declared ∧ (t.hold h).geom = (s.hold h).geom := by
      exact fun _ => ⟨rfl, rfl⟩)
    (margin : t.settings.hatchMargin = s.settings.hatchMargin := by rfl)
    (runLine : t.pour.runLine = s.pour.runLine := by rfl)
    (gantry : t.axes.gantry.position = s.axes.gantry.position := by rfl)
    (reach : t.axes.reach.position = s.axes.reach.position := by rfl)
    (records : t.belt.records = s.belt.records := by rfl) (grant : t.weigh.grant = s.weigh.grant := by rfl) :
    Sustains s t := by
  have r : Runs s t := Runs.of (fun o => ⟨(order o).1, (order o).2.1⟩) state active ship hold margin runLine gantry reach
  exact ⟨r, fun h => h.congr r.unfreed (fun o => (order o).2.2) records grant (by simp only [State.vesselOpen, ship.1])⟩

theorem raise_sustains (f : EventFlag) (s : State) : Sustains s (raise f s) := Sustains.of
theorem wake_sustains (s : State) : Sustains s (wake s) := .of_kept (wake_runs s) (wake_kept s)
theorem recompute_sustains (s : State) : Sustains s (recompute s) := .of_kept (recompute_runs s) (recompute_kept s)
theorem boundaryTest_sustains (s : State) : Sustains s (boundaryTest s) :=
  .of_kept (boundaryTest_runs s) (boundaryTest_kept s)
theorem orderlyEnd_sustains (c : EndCause) (s : State) : Sustains s (orderlyEnd c s) :=
  .of_kept (orderlyEnd_runs c s) (orderlyEnd_kept c s)
theorem immediateEnd_sustains (c : ImmediateCause) (k : After) (s : State) : Sustains s (immediateEnd c k s) :=
  .of_kept (immediateEnd_runs c k s) (immediateEnd_kept c k s)
theorem haltWith_sustains (c : ImmediateCause) (k : HaltCause) (s : State) : Sustains s (haltWith c k s) :=
  .of_kept (haltWith_runs c k s) (haltWith_kept c k s)
theorem failAxis_sustains (a : Axis) (r : AxisReason) (s : State) : Sustains s (failAxis a r s) :=
  .of_kept (failAxis_runs a r s) (failAxis_kept a r s)
theorem exclusionFormed_sustains (m : HoldSet) (s : State) : Sustains s (exclusionFormed m s) :=
  .of_kept (exclusionFormed_runs m s) (exclusionFormed_kept m s)
theorem finalisationTest_sustains (s : State) : Sustains s (finalisationTest s) :=
  .of_kept (finalisationTest_runs s) (finalisationTest_kept s)
theorem moveAxis_sustains (a : Axis) (k : MoveKind) (x : Int) (s : State) : Sustains s (moveAxis a k x s) :=
  .of_kept ((moveAxis_travels a k x s).runs (moveAxis_kept a k x s)) (moveAxis_kept a k x s)
theorem stopAxes_sustains (s : State) : Sustains s (stopAxes s) :=
  .of_kept ((stopAxes_travels s).runs (stopAxes_kept s)) (stopAxes_kept s)

theorem addReason_sustains (c : PauseReason) (s : State) : Sustains s (addReason c s) :=
  .of_kept (addReason_runs c s) (addReason_kept c s)
theorem removeReason_sustains (c : PauseReason) (s : State) : Sustains s (removeReason c s) :=
  .of_kept (removeReason_runs c s) (removeReason_kept c s)

/-- A hold record written whose declaration and hatch stay as they are. -/
theorem setHold_sustains (h : HoldId) (x : Hold) (s : State) (d : x.declared = (s.hold h).declared)
    (g : x.geom = (s.hold h).geom) : Sustains s (s.setHold h x) :=
  Sustains.of (hold := fun k => by
    rw [State.hold_setHold]
    split
    · subst k; exact ⟨d, g⟩
    · exact ⟨rfl, rfl⟩)

theorem setLot_sustains (l : LotSlot) (x : Lot) (s : State) : Sustains s (s.setLot l x) := Sustains.of

theorem issueBill_sustains (l : LotSlot) (s : State) : Sustains s (issueBill l s) := by
  have h : Sustains s { s with
      bank := (issueBill l s).bank
      holds := tabulate fun h => { s.hold h with billed := (s.hold h).billed + allocTo (s.lot l).allocs h } } :=
    Sustains.of (hold := fun k => by simp [State.hold])
  exact h.trans ((setLot_sustains l Lot.free _).trans (raise_sustains .billReady _))

theorem drainTest_sustains (n : Nat) (s : State) : Sustains s (drainTest n s) := by
  unfold drainTest
  split
  · exact .refl s
  · dsimp only
    split
    · split
      · exact (setLot_sustains ..).trans (issueBill_sustains ..)
      · exact setLot_sustains ..
    · exact .refl s

end Sys2Proof.Machine
end

section
/-! What each request makes of a state, and each event, keeps the laws of the active order (R25, R41), of the run line (R63) and of the
orders' material (R31), in the order of the chapters. -/

set_option Elab.async false

namespace Sys2Proof.Machine

variable {s t u : State}

/-- A command keeps the law of the active order, with it that of the run line, and, where the settings are in their ranges, that of
the orders' material. -/
structure Keeps (s t : State) : Prop where
  active : ActiveLaw s → ActiveLaw t
  line : ActiveLaw s → RunLineLaw s → RunLineLaw t
  transit : ActiveLaw s → SettingsLaw s → TransitLaw s → TransitLaw t

theorem Sustains.keeps (h : Sustains s t) : Keeps s t := ⟨h.active, h.line, fun _ _ => h.transit⟩

theorem Keeps.refl (s : State) : Keeps s s := (Sustains.refl s).keeps

theorem Keeps.followed (a : Keeps s t) (b : Sustains t u) : Keeps s u :=
  ⟨b.active ∘ a.active, fun h l => b.line (a.active h) (a.line h l), fun h v m => b.transit (a.transit h v m)⟩

/-- An operation on a state that meets the law of the active order: what follows from that law may be used. -/
theorem Sustains.keeps_of_active (h : ActiveLaw s → Sustains s t) : Keeps s t :=
  ⟨fun a => (h a).active a, fun a => (h a).line a, fun a _ => (h a).transit⟩

/-! ### The checks of a request -/

theorem whileOpen_keeps {α : Type} {field : Option α} {act : α → Taken}
    (h : ∀ x, s.vesselOpen = true → Keeps s (act x).state) : Keeps s (whileOpen field s act).state := by
  unfold whileOpen
  split
  · exact .refl s
  · next x =>
    split
    · next v => exact h x v
    · exact .refl s

theorem onDeclared_keeps {b : Byte} {act : HoldId → Taken} (h : ∀ x, Keeps s (act x).state) :
    Keeps s (onDeclared b s act).state := by
  refine whileOpen_keeps fun x _ => ?_
  split
  · exact h x
  · exact .refl s

theorem onOrder_keeps {b : Byte} {act : OrderId → Taken}
    (h : ∀ x, (s.order x).state ≠ .free → Keeps s (act x).state) : Keeps s (onOrder b s act).state := by
  refine whileOpen_keeps fun x _ => ?_
  split
  · exact .refl s
  · next e => exact h x e

/-! ### The hold table (chapter 1) -/

/-- A hold that is not declared is under no run line: its declaration leaves the law as it is. -/
theorem declare_runs (h : HoldId) (x : Hold) (e : (s.hold h).declared = false) : Runs s (s.setHold h x) := by
  have c : Calm s (s.setHold h x) := ⟨fun _ => rfl, rfl, rfl, rfl, id⟩
  refine c.runs fun _ l on => ?_
  have wanted := l on
  rw [← wanted]
  refine runWanted_congr rfl rfl fun k p => ?_
  have inside : s.overHold k = true := by
    obtain ⟨k', q, o⟩ := pourHold_of_runWanted wanted
    obtain rfl : k = k' := Option.some.inj (p.symm.trans q)
    exact o
  have declared : (s.hold k).declared = true := by
    unfold State.overHold State.inOpening at inside
    split at inside
    · rw [Bool.and_eq_true, Bool.and_eq_true] at inside; exact inside.1.1
    · cases inside
  have ne : k ≠ h := fun f => by rw [f, e] at declared; cases declared
  have same : (s.setHold h x).hold k = s.hold k := by rw [State.hold_setHold, if_neg ne]
  exact overHold_congr (by rw [same]) (by rw [same]) rfl rfl rfl rfl rfl

theorem declareFirst_sustains (h : HoldId) (g : HoldGeom) (e : (s.hold h).declared = false) :
    Sustains s (declareFirst h g s) :=
  .of_kept ((declare_runs h _ e).trans (recompute_runs _)) (recompute_kept _)

theorem stageAmendment_sustains (h : HoldId) (g : HoldGeom) (s : State) : Sustains s (stageAmendment h g s) :=
  (setHold_sustains h { s.hold h with staged := some g } s rfl rfl).trans (boundaryTest_sustains _)

theorem takeDeclareHold_keeps (b : Byte) (g : HoldGeom) (s : State) : Keeps s (takeDeclareHold b g s).state := by
  refine whileOpen_keeps fun h _ => ?_
  split
  · exact .refl s
  · split
    · exact (stageAmendment_sustains h g s).keeps
    · next e => exact (declareFirst_sustains h g (by simpa using e)).keeps

theorem takeSetShipOffset_keeps (x : BitVec 16) (b : Byte) (s : State) : Keeps s (takeSetShipOffset x b s).state := by
  refine whileOpen_keeps fun hd _ => ?_
  have h : Sustains s { s with ship.staged := some (clampInt (-20000) 20000 x.toInt, hd) } := Sustains.of
  exact (h.trans (boundaryTest_sustains _)).keeps

theorem heightsChanged_sustains (s : State) : Sustains s (heightsChanged s) := by
  unfold heightsChanged
  split
  · exact (wake_sustains s).trans (recompute_sustains _)
  · exact recompute_sustains s

theorem levelArrived_sustains (v : BitVec 32) (s : State) : Sustains s (levelArrived v s) := by
  unfold levelArrived
  split
  · exact (Sustains.of : Sustains s { s with river := ⟨v.toInt.toNat, s.now, false⟩ }).trans (heightsChanged_sustains _)
  · exact raise_sustains _ s

theorem levelGoesStale_sustains (s : State) : Sustains s (levelGoesStale s) := by
  unfold levelGoesStale
  split
  · exact .refl s
  · exact Sustains.of

theorem takeSetHoldLimit_keeps (b : Byte) (x : BitVec 32) (s : State) : Keeps s (takeSetHoldLimit b x s).state := by
  refine onDeclared_keeps fun h => ?_
  have a := (setHold_sustains h { s.hold h with limit := clampNat 0 500000000 x.toNat } s rfl rfl).trans (wake_sustains _)
  dsimp only
  split
  · exact (a.trans (orderlyEnd_sustains _ _)).keeps
  · exact a.keeps

theorem setHatch_sustains (h : HoldId) (b : Bool) (s : State) :
    Sustains s (s.setHold h { s.hold h with hatchOpen := b }) := setHold_sustains h _ s rfl rfl

theorem takeCloseHatch_keeps (b : Byte) (s : State) : Keeps s (takeCloseHatch b s).state :=
  onDeclared_keeps fun h => ((setHatch_sustains h false s).trans (exclusionFormed_sustains _ _)).keeps

theorem takeOpenHatch_keeps (b : Byte) (s : State) : Keeps s (takeOpenHatch b s).state := by
  refine onDeclared_keeps fun h => ?_
  have a := setHatch_sustains h true s
  dsimp only
  split
  · exact .refl s
  · split
    · exact (a.trans (wake_sustains _)).keeps
    · exact (a.trans (exclusionFormed_sustains _ _)).keeps

theorem writeFreeboards_sustains (draft : List (HoldId × Nat)) (s : State) : Sustains s (writeFreeboards draft s) := by
  induction draft generalizing s with
  | nil => exact .refl s
  | cons e rest ih => exact (setHold_sustains e.1 { s.hold e.1 with freeboard := some e.2 } s rfl rfl).trans (ih _)

theorem takeReportDraft_keeps (es : List (Byte × BitVec 16)) (s : State) : Keeps s (takeReportDraft es s).state := by
  refine whileOpen_keeps fun draft _ => ?_
  split
  · have h : Sustains (writeFreeboards draft s)
        { writeFreeboards draft s with ship.loadedAtReport := s.totalLoaded } := Sustains.of
    exact ((writeFreeboards_sustains draft s).trans (h.trans (heightsChanged_sustains _))).keeps
  · exact .refl s

theorem takeSetTpc_keeps (x : BitVec 32) (s : State) : Keeps s (takeSetTpc x s).state := by
  refine whileOpen_keeps fun n _ => ?_
  have h : Sustains s { s with ship.tpc := if n = 0 then none else some (clampNat 1000 200000 n) } := Sustains.of
  exact (h.trans (heightsChanged_sustains _)).keeps

theorem setSuspension_sustains (x : Suspension) (s : State) : Sustains s { s with suspension := x } := Sustains.of

theorem takeSuspend_keeps (bs : List Byte) (s : State) : Keeps s (takeSuspend bs s).state := by
  refine whileOpen_keeps fun hs _ => ?_
  split
  · exact .refl s
  · exact ((setSuspension_sustains _ s).trans (exclusionFormed_sustains _ _)).keeps

theorem takeResume_keeps (s : State) : Keeps s (takeResume s).state := by
  refine whileOpen_keeps fun _ _ => ?_
  split
  · exact .refl s
  · exact ((setSuspension_sustains _ s).trans (exclusionFormed_sustains _ _)).keeps

/-! ### Orders and passes (chapter 2) -/

/-- The record of an order that is not ACTIVE written by another that is not: neither law is concerned. -/
theorem Ends.keeps_laws {o : OrderId} {x : Order} (d : Ends o x s t) (e : (s.order o).state ≠ .active)
    (f : x.state ≠ .active) : (ActiveLaw s → ActiveLaw t) ∧ (ActiveLaw s → RunLineLaw s → RunLineLaw t) := by
  obtain ⟨queues, lastEnded, ports, rfl⟩ := d
  have others : ∀ k, ((s.setOrder o x).order k).state = .active ↔ (s.order k).state = .active := fun k => by
    rw [State.order_setOrder]
    split
    · subst k; exact iff_of_false f e
    · exact Iff.rfl
  refine ⟨fun h => ⟨h.1, fun k => (others k).trans (h.2.1 k), h.2.2⟩, fun h l on => ?_⟩
  rw [← l on]
  refine runWanted_congr rfl ?_ fun _ _ => rfl
  cases p : s.pourOrder with
  | none => simp only [State.pourHold, p, show ({ s.setOrder o x with
      queues := queues, lastEnded := lastEnded, ports := ports } : State).pourOrder = none from p]; rfl
  | some k =>
    have ne : k ≠ o := fun q => e ((h.2.1 o).mpr (q ▸ active_of_pourOrder p))
    have same : (s.setOrder o x).order k = s.order k := by rw [State.order_setOrder, if_neg ne]
    simp only [State.pourHold, p, show ({ s.setOrder o x with
      queues := queues, lastEnded := lastEnded, ports := ports } : State).pourOrder = some k from p]
    exact congrArg Order.hold same

theorem Ends.runs {o : OrderId} {x : Order} (d : Ends o x s t) (e : (s.order o).state ≠ .active)
    (f : x.state ≠ .active) (g : x.state ≠ .free) : Runs s t :=
  ⟨(d.keeps_laws e f).1, (d.keeps_laws e f).2, d.unfreed g⟩

theorem State.freeOrder_free {o : OrderId} (e : s.freeOrder = some o) : (s.order o).state = .free := by
  have := List.find?_some e; simpa using this

/-- No material is of a FREE slot (R22, R31). -/
theorem TransitLaw.free {o : OrderId} (h : TransitLaw s) (e : (s.order o).state = .free) :
    (s.order o).inTransit = 0 ∧ (s.order o).granted = 0 := by
  obtain ⟨-, granted, held, free, -⟩ := h
  refine ⟨free o e, ?_⟩
  rw [granted o]
  cases w : s.weigh.grant with
  | none => rfl
  | some g =>
    have ne : g.order ≠ o := fun q => (held g w).2 (q ▸ e)
    simp [Option.filter, ne]

/-- A slot written whose order carries nothing before or after: the law of the orders' material stands, as long as no grant is to a
slot that becomes FREE. -/
theorem TransitLaw.setOrder {o : OrderId} {x : Order} (h : TransitLaw s)
    (carries : (s.order o).inTransit = x.inTransit) (grants : (s.order o).granted = x.granted)
    (free : x.state = .free → x.inTransit = 0 ∧ x.granted = 0) : TransitLaw (s.setOrder o x) := by
  obtain ⟨inTransit, granted, held, isFree, closed⟩ := h
  have order : ∀ k, ((s.setOrder o x).order k).inTransit = (s.order k).inTransit ∧
      ((s.setOrder o x).order k).granted = (s.order k).granted := fun k => by
    rw [State.order_setOrder]
    split
    · subst k; exact ⟨carries.symm, grants.symm⟩
    · exact ⟨rfl, rfl⟩
  refine ⟨fun k => (order k).1.trans (inTransit k), fun k => (order k).2.trans (granted k), fun g w => ⟨(held g w).1, ?_⟩,
    fun k e => ?_, closed⟩
  · rw [State.order_setOrder]
    split
    · next q =>
      intro e
      have size := granted o
      have w' : s.weigh.grant = some g := w
      rw [grants, (free e).2, w', ← q] at size
      simp [Option.filter] at size
      have := (held g w).1
      omega
    · exact (held g w).2
  · rw [(order k).1]
    rw [State.order_setOrder] at e
    split at e
    · next q => rw [q, carries]; exact (free e).1
    · exact isFree k e

theorem addOrderAt_keeps (o : OrderId) (f : OrderFields) (e : (s.order o).state = .free) :
    Keeps s (addOrderAt o f s) := by
  have d : Ends o f.order s ((s.setOrder o f.order).setQueue f.hold (s.queue f.hold ++ [o])) := ⟨_, _, _, rfl⟩
  have laws := d.keeps_laws (by rw [e]; nofun) nofun
  have k : Keeps s ((s.setOrder o f.order).setQueue f.hold (s.queue f.hold ++ [o])) :=
    ⟨laws.1, laws.2, fun _ _ h => h.setOrder (h.free e).1 (h.free e).2 nofun⟩
  exact k.followed (wake_sustains _)

theorem takeAddOrder_keeps (f : Option OrderFields) (s : State) : Keeps s (takeAddOrder f s).state := by
  refine whileOpen_keeps fun x _ => ?_
  split
  · exact .refl s
  · split
    · exact .refl s
    · split
      · exact .refl s
      · split
        · exact .refl s
        · next o e => exact addOrderAt_keeps o x (State.freeOrder_free e)

theorem finishOrder_sustains (o : OrderId) (c : EndCause) (e : (s.order o).state ≠ .active) :
    Sustains s (finishOrder o c s) :=
  .of_kept ((finishOrder_ends o c s).runs e (EndCause.finished_not c).1 (EndCause.finished_not c).2) (finishOrder_kept o c s)

theorem takeWithdrawOrder_keeps (b : Byte) (s : State) : Keeps s (takeWithdrawOrder b s).state := by
  refine onOrder_keeps fun o _ => ?_
  split
  · next e => exact ((finishOrder_sustains o .withdrawn (by rw [e]; nofun)).trans (wake_sustains _)).keeps
  · next e => exact ((finishOrder_sustains o .withdrawn (by rw [e]; nofun)).trans (wake_sustains _)).keeps
  · exact (orderlyEnd_sustains _ s).keeps
  all_goals exact .refl s

theorem takeRearmOrder_keeps (b : Byte) (s : State) : Keeps s (takeRearmOrder b s).state := by
  refine onOrder_keeps fun o _ => ?_
  split
  · next e =>
    have d : Ends o { s.order o with state := .ready, retriesLeft := (s.order o).retryLimit } s
      (s.setOrder o { s.order o with state := .ready, retriesLeft := (s.order o).retryLimit }) := ⟨_, _, _, rfl⟩
    have r := d.runs (by rw [e]; nofun) nofun nofun
    have h : Sustains s (s.setOrder o { s.order o with state := .ready, retriesLeft := (s.order o).retryLimit }) :=
      .of_kept r (setOrder_kept s o _ ⟨rfl, rfl, rfl, rfl, rfl, rfl, rfl, rfl, rfl, rfl, rfl⟩)
    exact (h.trans (wake_sustains _)).keeps
  · exact .refl s

theorem takeReleaseOrder_keeps (b : Byte) (s : State) : Keeps s (takeReleaseOrder b s).state := by
  refine onOrder_keeps fun o _ => ?_
  split
  · exact .refl s
  · next e =>
    split
    · exact .refl s
    · next f =>
      have empty : (s.order o).inTransit = 0 ∧ (s.order o).granted = 0 := by simpa [not_or] using f
      have d : Ends o Order.free s (s.setOrder o Order.free) := ⟨_, _, _, rfl⟩
      have laws := d.keeps_laws (fun k => by rw [k] at e; exact e rfl) nofun
      exact ⟨laws.1, laws.2, fun _ _ h => h.setOrder empty.1 empty.2 fun _ => ⟨rfl, rfl⟩⟩

theorem editPasses_sustains (v : Vector (List HoldId) 12) (s : State) : Sustains s (editPasses v s) := by
  have a : Sustains s { s with passes.staged := v, passes.pendingEdit := true } := Sustains.of
  have b : ∀ w, Sustains w (commitPasses w) := fun w => by
    unfold commitPasses; split
    · exact Sustains.of
    · exact .refl w
  have commits := a.trans (b _)
  have c : Sustains s (if v = s.passes.inEffect
      then commitPasses { s with passes := { s.passes with staged := v, pendingEdit := true } }
      else wake (commitPasses { s with passes := { s.passes with staged := v, pendingEdit := true } })) := by
    split
    · exact commits
    · exact commits.trans (wake_sustains _)
  unfold editPasses; dsimp only
  split
  · exact c
  · exact c
  · exact c
  all_goals exact a

theorem takeSetPass_keeps (b : Byte) (bs : List Byte) (s : State) : Keeps s (takeSetPass b bs s).state :=
  whileOpen_keeps fun _ _ => (editPasses_sustains _ s).keeps

theorem takeClearPass_keeps (b : Byte) (s : State) : Keeps s (takeClearPass b s).state :=
  whileOpen_keeps fun _ _ => (editPasses_sustains _ s).keeps

/-! ### The schedule (chapter 3) -/

/-- A transition of the scheduler between states that are no pour, with a vessel open. -/
theorem Scheduled.sustains (f : Scheduled s t) (k : Kept s t) (e : s.sched.state.isPour = false)
    (v : s.vesselOpen = true) (active : t.sched.active = s.sched.active) (rest : t.sched.state.isPour = false) :
    Sustains s t :=
  .of_kept ⟨fun h => activeLaw_of_idle (f.idle (h.idle e).2) (active.trans (h.idle e).1) rest
      (fun n => by rw [f.vesselOpen, v] at n; cases n),
    fun _ l => .of_off (f.runLine.trans (l.off e)), .of_orders f.orders⟩ k

theorem resumeWalk_sustains (e : s.sched.state.isPour = false) (v : s.vesselOpen = true) : Sustains s (resumeWalk s) :=
  (resumeWalk_scheduled s).sustains (resumeWalk_kept s) e v (resumeWalk_active s) (by rw [resumeWalk_state]; rfl)

theorem newRound_sustains (e : s.sched.state.isPour = false) (v : s.vesselOpen = true) :
    Sustains s (startRound (enterState .seeking s)) :=
  ((enterState_scheduled .seeking s).trans (startRound_scheduled _)).sustains
    ((enterState_kept .seeking s).trans (startRound_kept _)) e v (by simp) (by simp [SchedState.isPour])

theorem setStep_sustains (b : Bool) (s : State) : Sustains s { s with sched.stepFlag := b } := Sustains.of

theorem clearHalts_sustains (s : State) : Sustains s (clearHalts s) := by
  have one : ∀ (r : AxisRec) (b : Bool),
      (match r.state, b with | .fault, false => r.clear s.now | _, _ => r : AxisRec).position = r.position := by
    intro r b; split <;> rfl
  exact Sustains.of (gantry := one _ _) (reach := one _ _)

theorem takeStart_keeps (s : State) : Keeps s (takeStart s).state := by
  unfold takeStart
  split
  · exact .refl s
  · next c =>
    have v : s.vesselOpen = true := by
      cases w : s.vesselOpen with
      | true => rfl
      | false => simp [w] at c
    have a := setStep_sustains false s
    split
    · next e => exact (a.trans (resumeWalk_sustains (by exact congrArg SchedState.isPour e) v)).keeps
    · next e => exact (a.trans (newRound_sustains (by exact congrArg SchedState.isPour e) v)).keeps
    · next e => exact (a.trans (newRound_sustains (by exact congrArg SchedState.isPour e) v)).keeps
    · next e =>
      split
      · exact .refl s
      · exact (a.trans ((clearHalts_sustains _).trans
          (resumeWalk_sustains (by exact congrArg SchedState.isPour e) v))).keeps
    all_goals exact .refl s

theorem takeStep_keeps (s : State) : Keeps s (takeStep s).state := by
  unfold takeStep
  split
  · next c =>
    simp only [Bool.and_eq_true, beq_iff_eq] at c
    obtain ⟨⟨v, -⟩, e⟩ := c
    exact ((setStep_sustains true s).trans (resumeWalk_sustains (by exact congrArg SchedState.isPour e) v)).keeps
  · exact .refl s

theorem stopSchedule_keeps (s : State) (e : s.pourOrder.isSome = false) : Keeps s (stopSchedule (stopAxes s)) := by
  refine Sustains.keeps_of_active fun h => ?_
  rw [pourOrder_isSome_iff h] at e
  exact (stopAxes_sustains s).trans
    (.of_kept (stopSchedule_runs (s := stopAxes s) (by exact e)) (stopSchedule_kept _))

theorem takeHaltSchedule_keeps (s : State) : Keeps s (takeHaltSchedule s).state := by
  have halts : Keeps s (if s.pourOrder.isSome then Taken.done (stopAxes (immediateEnd .yield .haltSchedule s))
      else Taken.done (stopSchedule (stopAxes s))).state := by
    split
    · exact ((immediateEnd_sustains _ _ s).trans (stopAxes_sustains _)).keeps
    · next e => exact stopSchedule_keeps s (by simpa using e)
  unfold takeHaltSchedule
  split
  · exact .refl s
  · exact .refl s
  all_goals exact halts

theorem moveOn_sustains (e : s.sched.state = .seeking) : Sustains s (moveOn s) := by
  have n : s.sched.state.isPour = false := by rw [e]; rfl
  have c : Calm s (moveOn s) := (moveOn_scheduled s).calm (moveOn_active s) ((moveOn_not_pour n).trans n.symm)
    fun k => by rw [e] at k; cases k
  exact .of_kept (c.runs_of_not_pour n (moveOn_scheduled s).runLine) (moveOn_kept s)

theorem activate_sustains (o : OrderId) (e : s.sched.state = .seeking) : Sustains s (activate o s) := by
  have n : s.sched.state.isPour = false := by rw [e]; rfl
  have idle : ActiveLaw s → Over s := fun h => ⟨(h.idle n).2, h.vesselOpen (by rw [e]; nofun)⟩
  exact .of_kept ⟨fun h => (activate_laws o (idle h)).1, fun h l => (activate_laws o (idle h)).2 (l.off n),
    activate_unfreed o s⟩ (activate_kept o s)

theorem passOver_sustains (h : HoldId) (c : HeldCause) (e : s.sched.state = .seeking) : Sustains s (passOver h c s) :=
  (Sustains.of : Sustains s { s with sched.held := s.sched.held.set h (some c) }).trans (moveOn_sustains (by exact e))

theorem examine_sustains (s : State) : Sustains s (examine s) := by
  unfold examine
  split
  · exact .refl s
  · next e =>
    have seeking : s.sched.state = .seeking := not_not.mp e
    split
    · exact moveOn_sustains seeking
    · split
      · exact moveOn_sustains seeking
      · split
        · split
          · exact activate_sustains _ seeking
          · exact passOver_sustains _ _ seeking
        · exact passOver_sustains _ _ seeking

/-! ### Pours (chapter 4) -/

theorem takeReason_keeps (c : PauseReason) (b : Bool) (s : State) : Keeps s (takeReason c b s).state := by
  refine whileOpen_keeps fun _ _ => ?_
  cases b
  · exact (removeReason_sustains c s).keeps
  · exact (addReason_sustains c s).keeps

theorem takeTopOff_keeps (s : State) : Keeps s (takeTopOff s).state := by
  unfold takeTopOff
  split
  · exact (orderlyEnd_sustains _ s).keeps
  · exact .refl s

theorem setInputs_sustains (x : Inputs) (s : State) : Sustains s { s with inputs := x } := Sustains.of
theorem reachTime_sustains (d : Time) (s : State) : Sustains s (reachTime d s) := Sustains.of

theorem confirmChanged_sustains (b : Bool) (s : State) : Sustains s (confirmChanged b s) := by
  have a := setInputs_sustains { s.inputs with beltConfirm := b } s
  unfold confirmChanged; dsimp only
  split
  · exact a
  · split
    · exact Sustains.of
    · exact a.trans (immediateEnd_sustains _ _ _)
    all_goals exact a

theorem confirmExpired_sustains (s : State) : Sustains s (confirmExpired s) := by
  unfold confirmExpired
  split
  · exact (reachTime_sustains _ s).trans (immediateEnd_sustains _ _ _)
  · exact .refl s

theorem emergencyStop_sustains (s : State) : Sustains s (emergencyStop s) :=
  (haltWith_sustains _ _ s).trans ((stopAxes_sustains _).trans Sustains.of)

/-! ### The spout (chapter 5) -/

theorem takeTakeManual_keeps (s : State) : Keeps s (takeTakeManual s).state := by
  unfold takeTakeManual
  split
  · exact .refl s
  · split
    · exact .refl s
    · exact ((Sustains.of : Sustains s { s with spout.manual := true }).trans (addReason_sustains _ _)).keeps

theorem takeReleaseManual_keeps (s : State) : Keeps s (takeReleaseManual s).state := by
  unfold takeReleaseManual
  split
  · have h : Sustains (stopAxes s) { stopAxes s with spout.manual := false } := Sustains.of
    exact ((stopAxes_sustains s).trans (h.trans (removeReason_sustains _ _))).keeps
  · exact .refl s

theorem takeJog_keeps (b : Byte) (d : BitVec 32) (s : State) : Keeps s (takeJog b d s).state := by
  unfold takeJog
  split
  · exact .refl s
  · split
    · exact .refl s
    · split
      · exact .refl s
      · dsimp only
        split
        · exact .refl s
        · exact (moveAxis_sustains _ _ _ s).keeps

theorem setAxis_sustains (a : Axis) (r : AxisRec) (s : State) (e : r.position = (s.axis a).position) :
    Sustains s (s.setAxis a r) := by
  cases a
  · exact Sustains.of (gantry := e)
  · exact Sustains.of (reach := e)
  · exact Sustains.of

theorem AxisRec.confirm_position (now : Time) (c : SpeedClass) (r : AxisRec) : (r.confirm now c).position = r.position := by
  unfold AxisRec.confirm; dsimp only; split <;> rfl

theorem classExpired_sustains (a : Axis) (s : State) : Sustains s (classExpired a s) := by
  unfold classExpired
  split
  · exact (reachTime_sustains _ s).trans (failAxis_sustains _ _ _)
  · exact .refl s

theorem moveExpired_sustains (a : Axis) (s : State) : Sustains s (moveExpired a s) := by
  unfold moveExpired
  split
  · exact (reachTime_sustains _ s).trans (failAxis_sustains _ _ _)
  · exact .refl s

/-- An immediate end, or none, of a state with another position: where a pour is in progress it leaves the run line deasserted, and
elsewhere the run line is deasserted already. -/
theorem Calm.immediateEnd_runs (c : Calm s t) (x : ImmediateCause) (k : After)
    (pour : t.pourOrder = s.pourOrder) (line : t.pour.runLine = s.pour.runLine) : Runs s (immediateEnd x k t) := by
  refine ⟨fun h => immediateEnd_activeLaw x k (c.activeLaw h), fun h l => ?_,
    c.unfreed.trans (immediateEnd_unfreed x k t)⟩
  cases p : t.pourOrder with
  | some o => exact immediateEnd_line x k (c.activeLaw h) p
  | none =>
    have off : s.pour.runLine = false := by
      rw [← Bool.not_eq_true]; intro on
      obtain ⟨k, q, -⟩ := pourHold_of_runWanted (l on)
      rw [State.pourHold, ← pour, p] at q
      cases q
    simp only [immediateEnd, p]
    exact .of_off (line.trans off)

/-- A position written, and the moves of its axis (R83, R85). -/
theorem setPosition_calm (a : Axis) (r : AxisRec) (s : State) : Calm s (s.setAxis a r) := ⟨fun _ => rfl, rfl, rfl, rfl, id⟩

theorem afterArrival_sustains (a : Axis) (r : AxisRec) (s : State) : Sustains s (afterArrival a (s.setAxis a r)) := by
  cases a with
  | spout =>
    have h : Sustains s (s.setAxis .spout r) := Sustains.of
    exact h.trans (.of_kept (settle_runs ((spoutArrived_travels _).runs (spoutArrived_kept _)))
      (settle_kept _ (spoutArrived_kept _)))
  | gantry =>
    exact .of_kept ((setPosition_calm .gantry r s).setRunLine.trans
      (settle_runs ((traverseArrived_travels _).runs (traverseArrived_kept _))))
      ((setRunLine_kept (s.setAxis .gantry r)).trans (settle_kept _ (traverseArrived_kept _)))
  | reach =>
    exact .of_kept ((setPosition_calm .reach r s).setRunLine.trans
      (settle_runs ((traverseArrived_travels _).runs (traverseArrived_kept _))))
      ((setRunLine_kept (s.setAxis .reach r)).trans (settle_kept _ (traverseArrived_kept _)))

theorem State.setAxis_setAxis (s : State) (a : Axis) (x y : AxisRec) : (s.setAxis a x).setAxis a y = s.setAxis a y := by
  cases a <;> rfl

theorem positionArrived_sustains (a : Axis) (x : Int) (s : State) : Sustains s (positionArrived a x s) := by
  unfold positionArrived; dsimp only
  split
  · next e =>
    have n : ¬((s.setAxis a { s.axis a with position := some x }).axis a).state = .fault := by simpa using e.1
    rw [failAxis, if_neg n, State.setAxis_setAxis]
    generalize ((s.setAxis a { s.axis a with position := some x }).axis a).fail .range = r
    have c : Calm s (raise .axisFault (s.setAxis a r)) := ⟨fun _ => rfl, rfl, rfl, rfl, id⟩
    exact .of_kept (c.immediateEnd_runs _ _ (pourOrder_congr rfl rfl) rfl)
      (immediateEnd_kept _ _ (raise .axisFault (s.setAxis a r)))
  · rw [State.setAxis_setAxis]; exact afterArrival_sustains a _ s

/-! ### Weighing and the belt (chapters 7 and 8) -/

theorem takeScaleStatus_keeps (b : Byte) (s : State) : Keeps s (takeScaleStatus b s).state := by
  unfold takeScaleStatus
  split
  · exact .refl s
  · exact (Sustains.of : Sustains s _).keeps

/-- An order's tonnages written leave the laws of the active order and of the run line as they are. -/
theorem setOrder_runs (o : OrderId) (x : Order) (s : State) (e : x.state = (s.order o).state)
    (f : x.hold = (s.order o).hold) : Runs s (s.setOrder o x) :=
  Runs.of (order := fun k => by
    rw [State.order_setOrder]
    split
    · subst k; exact ⟨e, f⟩
    · exact ⟨rfl, rfl⟩)

theorem Settings.bMin_pos (h : SettingsLaw s) : 0 < s.settings.bMin := by
  have := h s.settings (.inl rfl) .bMin
  simp [Settings.allows, Settings.value, within] at this
  omega

theorem waitReason_none (h : s.waitReason = none) : s.sched.state = .pouring ∧ s.weigh.grant = none := by
  unfold State.waitReason at h
  split at h
  · cases h
  · next a =>
    split at h
    · cases h
    · split at h
      · cases h
      · next b => exact ⟨not_not.mp a, by simpa using b⟩

theorem issueGrant_keeps (o : OrderId) (h : HoldId) (p : s.pourOrder = some o) (free : s.weigh.grant = none)
    (size : s.settings.bMin ≤ s.grantSize o h) : Keeps s (issueGrant o h s) := by
  have r : Runs s (issueGrant o h s) :=
    (Runs.of : Runs s { s with
      weigh.grant := some (s.newGrant o h), weigh.nextBatch := nextBatchNumber s.weigh.nextBatch }).trans
      (setOrder_runs o { s.order o with granted := s.grantSize o h } _ rfl rfl)
  refine ⟨r.active, r.line, fun a v ⟨inTransit, granted, held, isFree, closed⟩ => ?_⟩
  have open_ := a.vesselOpen_of_pour (isPour_of_pourOrder p)
  have act : (s.order o).state = .active := (a.2.1 o).mpr (active_of_pourOrder p)
  have order : ∀ k, (issueGrant o h s).order k =
      if k = o then { s.order o with granted := s.grantSize o h } else s.order k := fun k => State.order_setOrder _ o k _
  have tonnage : ∀ k, ((issueGrant o h s).order k).inTransit = (s.order k).inTransit ∧
      ((issueGrant o h s).order k).state = (s.order k).state := fun k => by
    rw [order]
    split
    · subst k; exact ⟨rfl, rfl⟩
    · exact ⟨rfl, rfl⟩
  refine ⟨fun k => (tonnage k).1.trans (inTransit k), fun k => ?_, fun g w => ?_, fun k e => ?_, fun e => ?_⟩
  · have none_ := granted k
    rw [free] at none_
    rw [order]
    change _ = (((some (s.newGrant o h)).filter fun g => g.order == k).map Grant.size).getD 0
    by_cases q : k = o
    · subst k; simp [Option.filter, State.newGrant]
    · simpa [Option.filter, State.newGrant, q, Ne.symm q] using none_
  · obtain rfl : s.newGrant o h = g := Option.some.inj w
    refine ⟨lt_of_lt_of_le (Settings.bMin_pos v) size, ?_⟩
    rw [(tonnage _).2]
    change (s.order o).state ≠ .free
    rw [act]; nofun
  · rw [(tonnage k).1]; exact isFree k ((tonnage k).2 ▸ e)
  · exact absurd (e.symm.trans open_) (by decide)

theorem takeNextBatch_keeps (s : State) : Keeps s (takeNextBatch s).state := by
  unfold takeNextBatch
  split
  · exact .refl s
  · next o h w p q =>
    unfold permittedPoll
    split
    · next size => exact issueGrant_keeps o h p (waitReason_none w).2 size
    · exact (orderlyEnd_sustains _ s).keeps
  · exact .refl s

theorem onLot_sustains (n : Nat) (f : Lot → Lot) (s : State) : Sustains s (onLot n f s) := by
  unfold onLot
  split
  · exact setLot_sustains ..
  · exact .refl s

theorem netWhere_append (f : Transit → Bool) (a b : List Transit) : netWhere f (a ++ b) = netWhere f a + netWhere f b := by
  simp [netWhere]

theorem netWhere_cons (f : Transit → Bool) (r : Transit) (rest : List Transit) :
    netWhere f (r :: rest) = (if f r then r.net else 0) + netWhere f rest := by
  cases h : f r <;> simp [netWhere, h]

theorem onLot_weigh (n : Nat) (f : Lot → Lot) (s : State) : (onLot n f s).weigh = s.weigh := by
  unfold onLot; split <;> rfl

/-- The outstanding grant charged: its order's tonnage granted becomes tonnage in transit, of the record that joins the belt (R130). -/
def grantCharged (g : Grant) (r : Transit) (last : Option Report) (s : State) : State :=
  { s.setOrder g.order { s.order g.order with granted := 0, inTransit := (s.order g.order).inTransit + r.net } with
    belt := { s.belt with records := s.belt.records ++ [r] }
    weigh := { s.weigh with grant := none, last := last } }

theorem grantCharged_sustains {g : Grant} {r : Transit} (last : Option Report) (e : s.weigh.grant = some g)
    (same : r.order = g.order) : Sustains s (grantCharged g r last s) := by
  have runs : Runs s (grantCharged g r last s) := (setOrder_runs g.order
    { s.order g.order with granted := 0, inTransit := (s.order g.order).inTransit + r.net } s rfl rfl).trans Runs.of
  refine ⟨runs, fun ⟨inTransit, granted, held, isFree, closed⟩ => ?_⟩
  have order : ∀ k, (grantCharged g r last s).order k =
      if k = g.order then { s.order g.order with granted := 0, inTransit := (s.order g.order).inTransit + r.net }
      else s.order k := fun k => State.order_setOrder s g.order k _
  have net : ∀ k, netWhere (fun t => t.order == k) (grantCharged g r last s).belt.records =
      netWhere (fun t => t.order == k) s.belt.records + if k = g.order then r.net else 0 := fun k => by
    change netWhere _ (s.belt.records ++ [r]) = _
    rw [netWhere_append, netWhere_cons, same]
    by_cases q : k = g.order
    · simp [netWhere, q]
    · simp [netWhere, q, Ne.symm q]
  refine ⟨fun k => ?_, fun k => ?_, nofun, fun k f => ?_, fun f => ?_⟩
  · rw [order, net]
    split
    · next q => rw [q]; exact congrArg (· + r.net) (inTransit g.order)
    · exact inTransit k
  · change _ = 0
    rw [order]
    split
    · rfl
    · next q => simp [granted k, e, Option.filter, Ne.symm q]
  · have old := runs.unfreed k f
    have ne : k ≠ g.order := fun q => (held g e).2 (q ▸ old)
    rw [order, if_neg ne]; exact isFree k old
  · have clear := closed f
    simp [State.beltClear, e] at clear

/-- An accepted report keeps the laws (R130, R31). -/
theorem acceptReport_sustains {g : Grant} (gross tare net : Nat) (why : Uncertified) (e : s.weigh.grant = some g) :
    Sustains s (acceptReport g gross tare net why s) := by
  have a := onLot_sustains g.lot (Lot.charge g.batch net why.any) s
  have b := a.trans (grantCharged_sustains (r := s.newTransit g net why.any)
    (some ⟨g.batch, gross, tare, .accepted g.order g.lot net why⟩) (by rw [onLot_weigh, e]) rfl)
  unfold acceptReport; dsimp only
  split
  · exact b.trans (raise_sustains _ _)
  · exact b

theorem faultReport_sustains {g : Grant} (gross tare : Nat) (e : s.weigh.grant = some g) :
    Sustains s (faultReport g gross tare s) := by
  have a : Sustains s (acceptReport g gross tare g.size .faulted { s with weigh.ready := false }) :=
    (Sustains.of : Sustains s { s with weigh.ready := false }).trans (acceptReport_sustains gross tare g.size _ e)
  unfold faultReport; dsimp only
  split
  · exact a.trans (immediateEnd_sustains _ _ _)
  · exact a

theorem refuseReport_sustains (batch gross tare : Nat) (o : ReportOutcome) (r : Result) (s : State) :
    Sustains s (refuseReport batch gross tare o r s).state :=
  (Sustains.of : Sustains s { s with weigh.last := some ⟨batch, gross, tare, o⟩ }).trans
    ((raise_sustains _ _).trans (haltWith_sustains _ _ _))

theorem takeBatchReport_keeps (b : BitVec 16) (gross tare : BitVec 32) (f : Byte) (s : State) :
    Keeps s (takeBatchReport b gross tare f s).state := by
  unfold takeBatchReport
  split
  · exact .refl s
  · split
    · exact (refuseReport_sustains ..).keeps
    · next g e =>
      split
      · exact (refuseReport_sustains ..).keeps
      · unfold takeAccepted
        split
        · exact (faultReport_sustains _ _ e).keeps
        · exact (acceptReport_sustains _ _ _ _ e).keeps

end Sys2Proof.Machine
end

section
/-! The laws of the active order (R25, R41), of the run line (R63) and of the orders' material (R31) through the belt, the dust monitor,
the lots, the settings, the session and the ports, and through every step. -/

set_option Elab.async false

namespace Sys2Proof.Machine

variable {s t u : State}

/-! ### Deliveries (chapter 8) -/

/-- What a delivery writes to the order pool (R142, steps 3 and 4). -/
theorem credit_order (r : Transit) (x : State) (k : OrderId) :
    ((creditActive r (creditSource r x)).order k).inTransit =
        (x.order k).inTransit - (if k = r.order then r.net else 0) ∧
      ((creditActive r (creditSource r x)).order k).granted = (x.order k).granted ∧
      ((creditActive r (creditSource r x)).order k).state = (x.order k).state ∧
      ((creditActive r (creditSource r x)).order k).hold = (x.order k).hold := by
  have source : ∀ j, (creditSource r x).order j =
      if j = r.order then { x.order r.order with inTransit := (x.order r.order).inTransit - r.net } else x.order j :=
    fun j => State.order_setOrder x r.order j _
  have active : ∀ o y, y.inTransit = ((creditSource r x).order o).inTransit → y.granted = ((creditSource r x).order o).granted →
      y.state = ((creditSource r x).order o).state → y.hold = ((creditSource r x).order o).hold →
      (((creditSource r x).setOrder o y).order k).inTransit = ((creditSource r x).order k).inTransit ∧
      (((creditSource r x).setOrder o y).order k).granted = ((creditSource r x).order k).granted ∧
      (((creditSource r x).setOrder o y).order k).state = ((creditSource r x).order k).state ∧
      (((creditSource r x).setOrder o y).order k).hold = ((creditSource r x).order k).hold := by
    intro o y a b c d
    rw [State.order_setOrder]
    split
    · next q => subst q; exact ⟨a, b, c, d⟩
    · exact ⟨rfl, rfl, rfl, rfl⟩
  have credited : ((creditActive r (creditSource r x)).order k).inTransit = ((creditSource r x).order k).inTransit ∧
      ((creditActive r (creditSource r x)).order k).granted = ((creditSource r x).order k).granted ∧
      ((creditActive r (creditSource r x)).order k).state = ((creditSource r x).order k).state ∧
      ((creditActive r (creditSource r x)).order k).hold = ((creditSource r x).order k).hold := by
    unfold creditActive
    split
    · exact ⟨rfl, rfl, rfl, rfl⟩
    · split <;> exact active _ _ rfl rfl rfl rfl
  obtain ⟨a, b, c, d⟩ := credited
  rw [a, b, c, d, source]
  split
  · next q => subst q; exact ⟨rfl, rfl, rfl, rfl⟩
  · exact ⟨rfl, rfl, rfl, rfl⟩

theorem credit_frame (r : Transit) (x : State) : ∃ orders, creditActive r (creditSource r x) = { x with orders := orders } := by
  unfold creditActive
  split
  · exact ⟨_, rfl⟩
  · split <;> exact ⟨_, rfl⟩

theorem allocateLot_frame (h : HoldId) (r : Transit) (s : State) : ∃ lots, allocateLot h r s = { s with lots := lots } := by
  unfold allocateLot; split <;> exact ⟨_, rfl⟩

/-- The charges of a delivery to the hold, the lot and the last spill, before those to the orders (R140, R142). -/
theorem landRecord_eq (r : Transit) (s : State) :
    ∃ x, Sustains s x ∧ x.orders = s.orders ∧ x.belt.records = s.belt.records ∧ x.weigh = s.weigh ∧ x.ship = s.ship ∧
      landRecord r s = creditActive r (creditSource r x) := by
  unfold landRecord
  split
  · next h spills _ =>
    obtain ⟨y, sy, e⟩ : ∃ y, (Sustains s y ∧ y.orders = s.orders ∧ y.belt.records = s.belt.records ∧ y.weigh = s.weigh ∧
        y.ship = s.ship) ∧ (if spills then spillAt h r s else s) = y := by
      refine ⟨_, ?_, rfl⟩
      split
      · exact ⟨Sustains.of, rfl, rfl, rfl, rfl⟩
      · exact ⟨.refl s, rfl, rfl, rfl, rfl⟩
    obtain ⟨a, orders, records, weigh, ship⟩ := sy
    have b := setHold_sustains h { y.hold h with loaded := (y.hold h).loaded + r.net } y rfl rfl
    obtain ⟨lots, f⟩ := allocateLot_frame h r (y.setHold h { y.hold h with loaded := (y.hold h).loaded + r.net })
    have c : Sustains (y.setHold h { y.hold h with loaded := (y.hold h).loaded + r.net })
        (allocateLot h r (y.setHold h { y.hold h with loaded := (y.hold h).loaded + r.net })) := by
      rw [f]; exact Sustains.of
    refine ⟨_, a.trans (b.trans c), ?_, ?_, ?_, ?_, by rw [e]; rfl⟩ <;> rw [f] <;> assumption
  · exact ⟨s, .refl s, rfl, rfl, rfl, rfl, rfl⟩

/-- The record at the head charged: its net leaves the tonnage in transit of its order as it leaves the belt (R31, R142). -/
theorem landRecord_sustains {r : Transit} {rest : List Transit} (e : s.belt.records = r :: rest) :
    Sustains s (landRecord r { s with belt.records := rest }) := by
  obtain ⟨x, sx, orders, records, weigh, ship, f⟩ := landRecord_eq r { s with belt.records := rest }
  have credit := credit_order r x
  obtain ⟨ys, g⟩ := credit_frame r x
  have same : ∀ k, x.order k = s.order k := State.order_of_orders orders
  have runs : Runs s (creditActive r (creditSource r x)) := by
    refine ((Runs.of : Runs s { s with belt.records := rest }).trans sx.toRuns).trans ?_
    have order : ∀ k, ((creditActive r (creditSource r x)).order k).state = (x.order k).state ∧
        ((creditActive r (creditSource r x)).order k).hold = (x.order k).hold :=
      fun k => ⟨(credit k).2.2.1, (credit k).2.2.2⟩
    rw [g] at order ⊢
    exact Runs.of (order := order)
  rw [f]
  refine ⟨runs, fun ⟨inTransit, granted, held, isFree, closed⟩ => ?_⟩
  have belt : (creditActive r (creditSource r x)).belt.records = rest := by rw [g]; exact records
  have grant : (creditActive r (creditSource r x)).weigh.grant = s.weigh.grant := by rw [g]; exact congrArg Weigh.grant weigh
  refine ⟨fun k => ?_, fun k => ?_, fun y w => ?_, fun k w => ?_, fun w => ?_⟩
  · have total := inTransit k
    rw [e, netWhere_cons] at total
    rw [(credit k).1, belt, same, total]
    by_cases q : k = r.order
    · simp [q]
    · simp [q, Ne.symm q]
  · rw [(credit k).2.1, grant, same]; exact granted k
  · rw [grant] at w; exact ⟨(held y w).1, fun q => (held y w).2 (runs.unfreed _ q)⟩
  · rw [(credit k).1, same, isFree k (runs.unfreed k w)]; exact Nat.zero_sub _
  · have v : s.vesselOpen = false := by
      rw [g] at w
      simpa only [State.vesselOpen, ship] using w
    have clear := closed v
    simp [State.beltClear, e] at clear

theorem deliver_sustains {r : Transit} {rest : List Transit} (e : s.belt.records = r :: rest) :
    Sustains s (deliver r rest s) :=
  (landRecord_sustains e).trans ((recompute_sustains _).trans ((finalisationTest_sustains _).trans (drainTest_sustains _ _)))

theorem deliverDue_sustains (n : Nat) (s : State) : Sustains s (deliverDue n s) := by
  induction n generalizing s with
  | zero => exact .refl s
  | succ n ih =>
    unfold deliverDue
    split
    · exact .refl s
    · next e =>
      split
      · exact .refl s
      · exact (deliver_sustains e).trans (ih _)

theorem beltPulsed_sustains (s : State) : Sustains s (beltPulsed s) :=
  (Sustains.of : Sustains s { s with
    belt.counter := s.belt.counter + BitVec.ofNat 32 s.settings.pulseTravel }).trans (deliverDue_sustains _ _)

/-! ### Dust (chapter 9) -/

theorem restartLockouts_hold (s : State) (h : HoldId) : (restartLockouts s).hold h =
    if s.overHold h && (s.hold h).lockout.isSome then { s.hold h with lockout := some s.lockoutEnd } else s.hold h := by
  simp only [restartLockouts, State.hold, Fin.getElem_fin, tabulate_getElem]

theorem restartLockouts_sustains (s : State) : Sustains s (restartLockouts s) :=
  Sustains.of (hold := fun h => by rw [restartLockouts_hold]; constructor <;> split <;> rfl)

theorem setLockout_sustains (h : HoldId) (d : Option Time) (s : State) :
    Sustains s (s.setHold h { s.hold h with lockout := d }) := setHold_sustains h _ s rfl rfl

theorem headStops_sustains (s : State) : Sustains s (headStops s) := by
  unfold headStops
  split
  · exact (setLockout_sustains _ _ s).trans (exclusionFormed_sustains _ _)
  · exact restartLockouts_sustains s

theorem formDustPlant_sustains (s : State) : Sustains s (formDustPlant s) := by
  unfold formDustPlant
  split
  · exact addReason_sustains _ s
  · exact removeReason_sustains _ s
  all_goals exact .refl s

/-- An operation taken under a condition. -/
theorem Sustains.ite {p : Prop} [Decidable p] (h : p → Sustains s t) : Sustains s (if p then t else s) := by
  split
  · next e => exact h e
  · exact .refl s

theorem handOn_sustains (c : Channel) (before : ChannelState) (level : Level) (s : State) :
    Sustains s (handOn c before level s) := by
  have chokes : ∀ w, Sustains w (settle (recomputeTravel true w)) := fun w =>
    .of_kept (settle_runs (recomputeTravel_runs true w)) (settle_kept _ (recomputeTravel_kept true w))
  have outputs : ∀ w, Sustains w { w with dust.beacon := w.beaconOn } := fun w => Sustains.of
  have sounds : ∀ w, Sustains w { w with dust.hornOn := true } := fun w => Sustains.of
  have a := Sustains.ite (p := c = .head ∧ entersStop level (s.level c)) fun _ => headStops_sustains s
  have b := a.trans (Sustains.ite (p := c = .head ∧ crossesWarn level (s.level c)) fun _ => chokes _)
  have d := (b.trans (formDustPlant_sustains _)).trans (outputs _)
  have e := d.trans (Sustains.ite (p := entersStop level (s.level c)) fun _ => sounds _)
  unfold handOn; dsimp only
  split
  · exact e
  · exact e.trans (raise_sustains _ _)

theorem channelEvent_sustains {c : Channel} {f : State → State} (h : Sustains s (f s)) : Sustains s (channelEvent c f s) :=
  h.trans (handOn_sustains _ _ _ _)

theorem setChannel_sustains (c : Channel) (x : ChannelRec) (s : State) : Sustains s (s.setChannel c x) := Sustains.of

theorem sampleArrived_sustains (c : Channel) (v : Nat) (s : State) : Sustains s (sampleArrived c v s) :=
  channelEvent_sustains (setChannel_sustains ..)

theorem channelStale_sustains (c : Channel) (s : State) : Sustains s (channelStale c s) := by
  unfold channelStale
  split
  · exact (reachTime_sustains _ s).trans (channelEvent_sustains (setChannel_sustains ..))
  · exact .refl s

theorem lockoutExpired_sustains (h : HoldId) (s : State) : Sustains s (lockoutExpired h s) := by
  unfold lockoutExpired
  split
  · exact (reachTime_sustains _ s).trans ((setLockout_sustains h none _).trans (exclusionFormed_sustains _ _))
  · exact .refl s

/-! ### Lots and bills (chapter 10) -/

theorem takeOpenLot_keeps (n : BitVec 16) (a : Lot) (s : State) : Keeps s (takeOpenLot n a s).state := by
  refine whileOpen_keeps fun _ _ => ?_
  split
  · exact .refl s
  · split
    · exact .refl s
    · exact (setLot_sustains ..).keeps

theorem takeCloseLot_keeps (n : BitVec 16) (s : State) : Keeps s (takeCloseLot n s).state := by
  refine whileOpen_keeps fun n _ => ?_
  split
  · exact .refl s
  · next l _ =>
    split
    · exact .refl s
    · split
      · exact .refl s
      · have h : Sustains s { s.setLot l { s.lot l with state := .closing } with bank.closing := s.bank.closing ++ [n] } :=
          Sustains.of
        exact (h.trans (drainTest_sustains n _)).keeps

theorem releaseHead_sustains (rest : List Bill) (s : State) : Sustains s (releaseHead rest s) := by
  have h : Sustains s { s with bank.bills := rest } := Sustains.of
  unfold releaseHead; dsimp only
  split
  · split
    · exact h.trans (issueBill_sustains _ _)
    · exact h
  · exact h

theorem takeReleaseBill_keeps (n : BitVec 32) (s : State) : Keeps s (takeReleaseBill n s).state := by
  unfold takeReleaseBill
  split
  · exact .refl s
  · split
    · exact .refl s
    · split
      · exact .refl s
      · exact (releaseHead_sustains _ s).keeps

/-! ### The session (section 10.7) -/

/-- A session request clears the order pool where no pour is in progress and the belt is clear (R172, R173). -/
theorem newSession_keeps (vessel : BitVec 16) (e : ActiveLaw s → s.sched.state.isPour = false)
    (clear : ActiveLaw s → TransitLaw s → s.beltClear = true) : Keeps s (newSession vessel s) := by
  have f := enterState_scheduled .stopped (clearSession vessel s)
  have order : ∀ o, (enterState .stopped (clearSession vessel s)).order o = Order.free := fun o => by
    rw [State.order_of_orders f.orders]; simp [clearSession, State.order]
  have active : ActiveLaw (enterState .stopped (clearSession vessel s)) :=
    activeLaw_of_idle (fun o => by rw [order]; nofun) (by simp [clearSession, Sched.cleared])
      (by simp [SchedState.isPour]) fun _ => by simp
  have k : Keeps s (enterState .stopped (clearSession vessel s)) := by
    refine ⟨fun _ => active, fun h l => .of_off (f.runLine.trans (l.off (e h))), fun h _ m => ?_⟩
    obtain ⟨_, _, _, g⟩ := f
    have empty : s.belt.records = [] ∧ s.weigh.grant = none := by
      simpa [State.beltClear] using clear h m
    have belt : (enterState .stopped (clearSession vessel s)).belt.records = [] := by rw [g]; exact empty.1
    have grant : (enterState .stopped (clearSession vessel s)).weigh.grant = none := by rw [g]; exact empty.2
    refine ⟨fun o => ?_, fun o => ?_, fun y w => ?_, fun o _ => ?_, fun _ => ?_⟩
    · rw [order, belt]; rfl
    · rw [order, grant]; rfl
    · rw [grant] at w; cases w
    · rw [order]; rfl
    · simp [State.beltClear, belt, grant]
  unfold newSession; dsimp only
  split
  · exact k
  · exact k.followed (raise_sustains _ _)

theorem takeVesselOpen_keeps (code : BitVec 16) (s : State) : Keeps s (takeVesselOpen code s).state := by
  unfold takeVesselOpen
  split
  · exact .refl s
  · split
    · exact .refl s
    · next v =>
      have closed : s.vesselOpen = false := by simpa using v
      exact newSession_keeps code (fun h => by rw [h.2.2 closed]; rfl) fun _ m => m.2.2.2.2 closed

theorem takeVesselClose_keeps (s : State) : Keeps s (takeVesselClose s).state := by
  unfold takeVesselClose
  split
  · next c =>
    simp only [State.mayClose, Bool.and_eq_true, Bool.or_eq_true, beq_iff_eq] at c
    obtain ⟨⟨⟨-, st⟩, -⟩, clear⟩ := c
    exact newSession_keeps 0 (fun _ => by rcases st with (e | e) | e <;> rw [e] <;> rfl) fun _ _ => clear
  · exact .refl s

/-! ### Settings, ports and resets (chapter 11) -/

theorem hatchMargin_put (v : Settings) (n : SettingName) (x : Int) (e : n ≠ .hatchMargin) :
    (v.put n x).hatchMargin = v.hatchMargin := by
  cases n with
  | hatchMargin => exact absurd rfl e
  | _ => rfl

/-- With no vessel open no run line is asserted, so that no setting concerns it (R41, R63). -/
theorem putSetting_keeps (n : SettingName) (x : Int) (e : n = .hatchMargin → s.vesselOpen = false) :
    Keeps s { s with settings := s.settings.put n x } := by
  refine Sustains.keeps_of_active fun h => ?_
  by_cases m : n = .hatchMargin
  · have c : Calm s { s with settings := s.settings.put n x } := ⟨fun _ => rfl, rfl, rfl, rfl, id⟩
    exact ⟨c.runs_of_not_pour (by rw [h.2.2 (e m)]; rfl) rfl,
      fun l => l.congr c.unfreed (fun _ => ⟨rfl, rfl⟩) rfl rfl rfl⟩
  · exact Sustains.of (margin := hatchMargin_put s.settings n x m)

theorem setPort_sustains (p : Port) (x : PortRec) (s : State) : Sustains s (s.setPort p x) := Sustains.of

theorem useSetting_keeps (n : SettingName) (x : Int) (e : n = .hatchMargin → s.vesselOpen = false) :
    Keeps s (useSetting n x s) := by
  have writes := putSetting_keeps n x e
  unfold useSetting
  split
  · exact (channelEvent_sustains Sustains.of).keeps
  · dsimp only
    split
    · exact .refl s
    · exact writes.followed (setPort_sustains _ _ _)
  all_goals exact writes

theorem beginCopy_sustains (s : State) : Sustains s (beginCopy s) := by
  unfold beginCopy; split <;> exact Sustains.of

theorem takeWriteSetting_keeps (b : Byte) (sub : Option Byte) (v : BitVec 32) (s : State) :
    Keeps s (takeWriteSetting b sub v s).state := by
  unfold takeWriteSetting
  split
  · exact .refl s
  · next n _ =>
    split
    · exact .refl s
    · next c =>
      split
      · exact .refl s
      · refine (useSetting_keeps n _ fun m => ?_).followed (beginCopy_sustains _)
        simpa [m, SettingName.anyTime] using c

theorem writeCompleted_sustains (s : State) : Sustains s (writeCompleted s) := by
  unfold writeCompleted; split <;> exact Sustains.of

/-- A state after start-up meets the laws, whatever the settings and the inputs (R185). -/
theorem fresh_laws (now : Time) (i : Inputs) (v : Settings) (st : Store) (q : List Instr) :
    ActiveLaw (State.fresh now i v st q) ∧ RunLineLaw (State.fresh now i v st q) ∧ TransitLaw (State.fresh now i v st q) := by
  have order : ∀ o, (State.fresh now i v st q).order o = Order.free := fun o => by simp [State.fresh, State.order]
  refine ⟨activeLaw_of_idle (fun o => by rw [order]; nofun) rfl rfl fun _ => rfl, nofun,
    fun o => ?_, fun o => ?_, nofun, fun o _ => ?_, fun _ => rfl⟩ <;> rw [order] <;> rfl

theorem driveStanding_sustains (a : Axis) (s : State) : Sustains s (driveStanding a s) := by
  unfold driveStanding
  exact Sustains.ite fun _ => failAxis_sustains ..

theorem startedUp_keeps (s : State) : Keeps s (startedUp s) := by
  have settings : ∀ w, Sustains w (settingsEvent w) := fun w => by
    unfold settingsEvent; split
    · exact .refl w
    · exact raise_sustains _ w
  have stop : ∀ w, Sustains w (stopStanding w) := fun w => by
    unfold stopStanding
    exact Sustains.ite fun _ => emergencyStop_sustains w
  obtain ⟨a, l, m⟩ := fresh_laws s.now s.inputs s.store.loaded { s.store with cond := .idle, copying := none } s.pending
  have h := (settings (State.fresh s.now s.inputs s.store.loaded { s.store with cond := .idle, copying := none }
    s.pending)).trans ((stop _).trans ((driveStanding_sustains .gantry _).trans
      ((driveStanding_sustains .reach _).trans (driveStanding_sustains .spout _))))
  exact ⟨fun _ => h.active a, fun _ _ => h.line a l, fun _ _ _ => h.transit m⟩

theorem execReset_keeps (s : State) : Keeps s { holdOutputs s with inReset := true } := by
  have c : Calm s { holdOutputs s with inReset := true } := ⟨fun _ => rfl, rfl, rfl, rfl, id⟩
  exact ⟨c.activeLaw, fun _ _ => .of_off rfl, fun _ _ l => l.congr c.unfreed (fun _ => ⟨rfl, rfl⟩) rfl rfl rfl⟩

/-! ### Requests, frames and bytes -/

/-- The laws do not speak of the ports. -/
theorem Keeps.of_setPort {p : Port} {x : PortRec} (k : Keeps (s.setPort p x) t) : Keeps s t := ⟨k.active, k.line, k.transit⟩

theorem Keeps.setPort (k : Keeps s t) (p : Port) (x : PortRec) : Keeps s (t.setPort p x) := k.followed (setPort_sustains ..)

theorem idlePort_keeps (p : Port) (s : State) : Keeps s (idlePort p s) := (Keeps.refl s).setPort ..

theorem request_keeps {i : Instr} {p : Port} {owner : State → Taken} (h : ∀ w, Keeps w (owner w).state)
    (e : request i p owner s = .next t) : Keeps s t := by
  have answers : ∀ c r items, Keeps s (reply p c r items (idlePort p s)) := fun c r items =>
    (idlePort_keeps p s).setPort ..
  unfold request at e
  injection e with e
  subst e
  split
  · exact .refl s
  · split
    · exact idlePort_keeps p s
    · dsimp only
      split
      · exact answers ..
      · split
        · exact answers ..
        · exact ((h (idlePort p s)).setPort ..).of_setPort

theorem event_keeps {f : State → State} (h : ∀ w, Sustains w (f w)) (e : event f s = .next t) : Keeps s t := by
  unfold event at e
  injection e with e
  subst e
  split
  · exact .refl s
  · exact (h s).keeps

/-- A request that reads changes nothing. -/
theorem reads_keeps {r : Taken} (e : r.state = s) : Keeps s r.state := by rw [e]; exact .refl s

/-- The request of a frame, by its code. -/
theorem takeRequest_keeps (i : Instr) (e : takeRequest i s = .next t) : Keeps s t := by
  cases i
  case vesselOpen => exact request_keeps (fun w => takeVesselOpen_keeps _ w) e
  case vesselClose => exact request_keeps (fun w => takeVesselClose_keeps w) e
  case declareHold => exact request_keeps (fun w => takeDeclareHold_keeps _ _ w) e
  case setShipOffset => exact request_keeps (fun w => takeSetShipOffset_keeps _ _ w) e
  case readHold => exact request_keeps (fun w => reads_keeps (by unfold takeReadHold; split <;> rfl)) e
  case readStaged =>
    exact request_keeps (fun w => reads_keeps (by unfold takeReadStaged; split <;> [rfl; split] <;> rfl)) e
  case setHoldLimit => exact request_keeps (fun w => takeSetHoldLimit_keeps _ _ w) e
  case closeHatch => exact request_keeps (fun w => takeCloseHatch_keeps _ w) e
  case openHatch => exact request_keeps (fun w => takeOpenHatch_keeps _ w) e
  case reportDraft => exact request_keeps (fun w => takeReportDraft_keeps _ w) e
  case setTpc => exact request_keeps (fun w => takeSetTpc_keeps _ w) e
  case suspend => exact request_keeps (fun w => takeSuspend_keeps _ w) e
  case resume => exact request_keeps (fun w => takeResume_keeps w) e
  case holdFeed => exact request_keeps (fun w => takeReason_keeps _ _ w) e
  case releaseFeed => exact request_keeps (fun w => takeReason_keeps _ _ w) e
  case addOrder => exact request_keeps (fun w => takeAddOrder_keeps _ w) e
  case withdrawOrder => exact request_keeps (fun w => takeWithdrawOrder_keeps _ w) e
  case rearmOrder => exact request_keeps (fun w => takeRearmOrder_keeps _ w) e
  case releaseOrder => exact request_keeps (fun w => takeReleaseOrder_keeps _ w) e
  case readOrder => exact request_keeps (fun w => reads_keeps (by unfold takeReadOrder; split <;> rfl)) e
  case setPass => exact request_keeps (fun w => takeSetPass_keeps _ _ w) e
  case clearPass => exact request_keeps (fun w => takeClearPass_keeps _ w) e
  case readPass => exact request_keeps (fun w => reads_keeps (by unfold takeReadPass; split <;> rfl)) e
  case start => exact request_keeps (fun w => takeStart_keeps w) e
  case step => exact request_keeps (fun w => takeStep_keeps w) e
  case haltSchedule => exact request_keeps (fun w => takeHaltSchedule_keeps w) e
  case pause => exact request_keeps (fun w => takeReason_keeps _ _ w) e
  case continuePour => exact request_keeps (fun w => takeReason_keeps _ _ w) e
  case topOff => exact request_keeps (fun w => takeTopOff_keeps w) e
  case takeManual => exact request_keeps (fun w => takeTakeManual_keeps w) e
  case releaseManual => exact request_keeps (fun w => takeReleaseManual_keeps w) e
  case jog => exact request_keeps (fun w => takeJog_keeps _ _ w) e
  case silenceHorn =>
    exact request_keeps (fun w => (Sustains.of : Sustains w { w with dust.hornOn := false }).keeps) e
  case nextBatch => exact request_keeps (fun w => takeNextBatch_keeps w) e
  case batchReport => exact request_keeps (fun w => takeBatchReport_keeps _ _ _ _ w) e
  case scaleStatus => exact request_keeps (fun w => takeScaleStatus_keeps _ w) e
  case openLot => exact request_keeps (fun w => takeOpenLot_keeps _ _ w) e
  case closeLot => exact request_keeps (fun w => takeCloseLot_keeps _ w) e
  case readLot =>
    exact request_keeps (fun w => reads_keeps (by unfold takeReadLot; split <;> [rfl; split] <;> rfl)) e
  case readBill => exact request_keeps (fun w => reads_keeps (by unfold takeReadBill; split <;> rfl)) e
  case releaseBill => exact request_keeps (fun w => takeReleaseBill_keeps _ w) e
  case writeSetting => exact request_keeps (fun w => takeWriteSetting_keeps _ _ _ w) e
  case readSetting => exact request_keeps (fun w => reads_keeps (by unfold takeReadSetting; split <;> rfl)) e
  case readStatus => exact request_keeps (fun w => reads_keeps (by unfold takeReadStatus; split <;> rfl)) e
  case readEvents => exact request_keeps (fun w => (Keeps.refl w).setPort ..) e
  case setEventEnable =>
    refine request_keeps (fun w => ?_) e
    unfold takeSetEventEnable
    split
    · exact .refl w
    · exact (Keeps.refl w).setPort ..
  all_goals exact Host.Outcome.next.inj e ▸ .refl s

theorem takeFrame_keeps {p : Port} {c : Byte} {body : List Byte} (e : takeFrame p c body s = .next t) : Keeps s t := by
  unfold takeFrame at e
  split at e
  · exact Host.Outcome.next.inj e ▸ .refl s
  · split at e
    · exact Host.Outcome.next.inj e ▸ idlePort_keeps p s
    · split at e
      · exact takeRequest_keeps _ e
      · exact Host.Outcome.next.inj e ▸ (idlePort_keeps p s).setPort ..

theorem byteInIdle_keeps (p : Port) (b : Byte) (s : State) : Keeps s (byteInIdle p b s) := by
  unfold byteInIdle
  split <;> exact (Keeps.refl s).setPort ..

theorem byteInFrame_keeps {p : Port} {got : List Byte} {b : Byte} (e : byteInFrame p got b s = .next t) : Keeps s t := by
  unfold byteInFrame at e
  split at e
  · have h := Host.Outcome.next.inj e
    subst h
    split <;> exact (Keeps.refl s).setPort ..
  · split at e
    · exact Host.Outcome.next.inj e ▸ (Keeps.refl s).setPort ..
    · unfold frameGathered at e
      dsimp only at e
      split at e
      · split at e
        · exact (takeFrame_keeps e).of_setPort
        · exact Host.Outcome.next.inj e ▸ idlePort_keeps p s
      · exact Host.Outcome.next.inj e ▸ idlePort_keeps p s

theorem execByteArrival_keeps {p : Port} {b : Byte} (e : execByteArrival p b s = .next t) : Keeps s t := by
  unfold execByteArrival byteTaken at e
  split at e
  · exact Host.Outcome.next.inj e ▸ .refl s
  · split at e
    · exact Host.Outcome.next.inj e ▸ byteInIdle_keeps p b s
    · split at e
      · exact Host.Outcome.next.inj e ▸ byteInIdle_keeps p b s
      · exact byteInFrame_keeps e

theorem gapPassed_sustains (p : Port) (s : State) : Sustains s (gapPassed p s) := by
  unfold gapPassed
  split
  · exact (reachTime_sustains _ s).trans (setPort_sustains _ _ _)
  · exact .refl s

theorem replyGone_sustains (p : Port) (s : State) : Sustains s (replyGone p s) := by
  unfold replyGone
  split
  · exact .refl s
  · exact setPort_sustains ..

/-- A command that is a request has one meaning, as a command and as a frame. -/
theorem exec_of_request {i : Instr} {p : Port} (e : i.requestPort = some p) (s : State) : exec i s = takeRequest i s := by
  cases i <;> first | rfl | cases e

/-- Every command keeps the laws. -/
theorem exec_keeps (i : Instr) (e : exec i s = .next t) : Keeps s t := by
  cases r : i.requestPort with
  | some p => exact takeRequest_keeps i (exec_of_request r s ▸ e)
  | none =>
    cases i
    case frameRefused => exact takeFrame_keeps e
    case frameDiscarded => exact event_keeps (fun w => setPort_sustains _ _ w) e
    case frameGapTimeout => exact event_keeps (gapPassed_sustains _) e
    case replySent => exact event_keeps (replyGone_sustains _) e
    case reset => exact Host.Outcome.next.inj e ▸ execReset_keeps s
    case startUp => exact Host.Outcome.next.inj e ▸ startedUp_keeps s
    case writeCompletion => exact event_keeps writeCompleted_sustains e
    case emergencyStopAssert =>
      rw [← Host.Outcome.next.inj e]
      have a := setInputs_sustains { s.inputs with eStop := true } s
      split
      · exact a.keeps
      · exact (a.trans (emergencyStop_sustains _)).keeps
    case emergencyStopRelease => exact Host.Outcome.next.inj e ▸ (setInputs_sustains _ s).keeps
    case driveFaultAssert a =>
      rw [← Host.Outcome.next.inj e]
      have b := setInputs_sustains { s.inputs with driveFault := s.inputs.driveFault.set a true } s
      split
      · exact b.keeps
      · exact (b.trans (failAxis_sustains _ _ _)).keeps
    case driveFaultRelease => exact Host.Outcome.next.inj e ▸ (setInputs_sustains _ s).keeps
    case positionArrival => exact event_keeps (positionArrived_sustains _ _) e
    case classArrival => exact event_keeps (fun w => setAxis_sustains _ _ w (AxisRec.confirm_position ..)) e
    case classDeadlineExpiry => exact event_keeps (classExpired_sustains _) e
    case moveDeadlineExpiry => exact event_keeps (moveExpired_sustains _) e
    case beltConfirmChange => exact Host.Outcome.next.inj e ▸ (confirmChanged_sustains _ s).keeps
    case confirmDeadlineExpiry => exact event_keeps confirmExpired_sustains e
    case beltPulse => exact event_keeps beltPulsed_sustains e
    case riverLevelArrival => exact event_keeps (levelArrived_sustains _) e
    case levelStale => exact event_keeps levelGoesStale_sustains e
    case dustSampleArrival => exact event_keeps (sampleArrived_sustains _ _) e
    case dustStaleExpiry => exact event_keeps (channelStale_sustains _) e
    case lockoutExpiry => exact event_keeps (lockoutExpired_sustains _) e
    case examination => exact event_keeps examine_sustains e
    case byteArrival => exact execByteArrival_keeps e
    case framingError => exact event_keeps (fun w => setPort_sustains _ _ w) e
    all_goals cases r

theorem step_keeps (e : step s = .next t) : Keeps s t := by
  unfold step at e
  split at e
  · have k := exec_keeps _ e
    exact ⟨k.active, k.line, k.transit⟩
  · exact Host.Outcome.next.inj e ▸ (Sustains.of : Sustains s (tick s)).keeps

/-- Settles O16: every operation keeps the two laws (`Keeps`), the ends of a pour through the state in which it is `Over`. -/
theorem activeLawKept : Obligations.ActiveLawKept := by
  unfold Obligations.ActiveLawKept
  exact fun s t e h => ⟨(step_keeps e).active h, (step_keeps e).line h⟩

/-- Settles O21: a grant, a report, a delivery, a new and a released order each keep the sums of R31; the rest leaves them alone. -/
theorem transitLawKept : Obligations.TransitLawKept := by
  unfold Obligations.TransitLawKept
  exact fun s t h v m e => (step_keeps e).transit h v m

end Sys2Proof.Machine
end

section
/-! How a request is answered, said once: the owning block works on the port's idled record, which no operation reads, so that what it
makes of the state may be stated of the state before (R176 to R179). Then the requests of the orders and the passes (chapter 2). -/

set_option Elab.async false

namespace Sys2Proof.Machine

variable {s t : State} {p : Port}

/-! ### A request's answer -/

/-- A request that its owner answers with a state in which the port is idled, answered on the state in which it is not. -/
theorem request_answered {i : Instr} {owner : State → Taken} {r : Result} {items : List Byte} (h : s.takes p)
    (e : owner (idlePort p s) = ⟨idlePort p t, r, items⟩) (w : i.wellFormed = true := by rfl)
    (a : permitted p i.requestCode = true := by rfl) (c : i.requestCode.toNat < 0x80 := by exact of_decide_eq_true rfl) :
    request i p owner s = .next (t.answered p i.requestCode r items) := by
  rw [request_taken h w a, e, reply_idlePort p _ r items t c]

/-- A request refused leaves the state but for the reply (R178, R179). -/
theorem request_refused {i : Instr} {owner : State → Taken} {r : Result} (h : s.takes p)
    (e : owner (idlePort p s) = .refuse (idlePort p s) r) (w : i.wellFormed = true := by rfl)
    (a : permitted p i.requestCode = true := by rfl) (c : i.requestCode.toNat < 0x80 := by exact of_decide_eq_true rfl) :
    request i p owner s = .next (s.answered p i.requestCode r) :=
  request_answered h e w a c

/-- A port's receive condition written, which no operation of the blocks reads. `idlePort` and `restoreRx` write it. -/
def State.setRx (p : Port) (x : Receive) (s : State) : State := s.setPort p { s.port p with rx := x }

/-- Flags raised beside a receive condition. -/
theorem raise_setRx (f : EventFlag) (p : Port) (x : Receive) (s : State) : raise f (s.setRx p x) = (raise f s).setRx p x := by
  cases p <;> rfl

/-- A wake event beside a receive condition (R56). -/
theorem woken_setRx (p : Port) (x : Receive) (s : State) : (s.setRx p x).woken = s.woken.setRx p x := by
  have rounds := raise_setRx .schedule p x { s with sched.state := .seeking }.roundStarted
  unfold State.woken
  simp only [show (s.setRx p x).sched = s.sched from rfl]
  cases s.sched.state with
  | held | complete => exact rounds
  | _ => rfl

/-- Leaving a resting state raises SCHEDULE (R59). -/
theorem enterState_leave {st : SchedState} (e : s.sched.state.resting = true) (n : st ≠ s.sched.state) :
    enterState st s = raise .schedule { s with sched.state := st } := by
  simp [enterState, e, n]

/-- What a wake event leaves, as R56 and R47 state it. -/
theorem wake_eq (s : State) : wake s = s.woken := by
  have rounds : s.sched.state = .held ∨ s.sched.state = .complete →
      startRound (enterState .seeking s) = raise .schedule { s with sched.state := .seeking }.roundStarted := by
    intro e
    rw [enterState_leave (by rcases e with e | e <;> rw [e] <;> rfl) (by rcases e with e | e <;> rw [e] <;> nofun),
      startRound_eq]
    rfl
  unfold wake State.woken
  cases e : s.sched.state with
  | held => exact rounds (.inl e)
  | complete => exact rounds (.inr e)
  | _ => rfl

/-! ### The fields of a request -/

theorem orderOf_eq {b : Byte} {o : OrderId} (h : b.toNat = o.val + 1) : orderOf b = some o := by
  have := o.isLt
  rw [orderOf, dif_pos (by omega)]
  exact congrArg some (Fin.ext (by simp [h]))

theorem holdOf_eq {b : Byte} {x : HoldId} (h : b.toNat = x.val + 1) : holdOf b = some x := by
  have := x.isLt
  rw [holdOf, dif_pos (by omega)]
  exact congrArg some (Fin.ext (by simp [h]))

theorem passOf_eq {b : Byte} {n : PassId} (h : b.toNat = n.val + 1) : passOf b = some n := by
  have := n.isLt
  rw [passOf, dif_pos (by omega)]
  exact congrArg some (Fin.ext (by simp [h]))

theorem whileOpen_eq {α : Type} {x : α} {act : α → Taken} {field : Option α} (f : field = some x) (v : s.vesselOpen = true) :
    whileOpen field s act = act x := by
  simp [whileOpen, f, v]

theorem onOrder_eq {b : Byte} {o : OrderId} {act : OrderId → Taken} (h : b.toNat = o.val + 1) (v : s.vesselOpen = true)
    (f : (s.order o).state ≠ .free) : onOrder b s act = act o := by
  rw [onOrder, whileOpen_eq (orderOf_eq h) v, if_neg f]

theorem onOrder_free {b : Byte} {o : OrderId} {act : OrderId → Taken} (h : b.toNat = o.val + 1) (v : s.vesselOpen = true)
    (f : (s.order o).state = .free) : onOrder b s act = .refuse s .unknown := by
  rw [onOrder, whileOpen_eq (orderOf_eq h) v, if_pos f]

/-! ### REARM ORDER and RELEASE ORDER (R33, R34) -/

theorem OrderState.not_finished {st : OrderState} (h : st = .ready ∨ st = .active ∨ st = .stalled) : st.finished = false := by
  rcases h with rfl | rfl | rfl <;> rfl

theorem OrderState.finished_of {st : OrderState} (h : st = .done ∨ st = .short ∨ st = .withdrawn) : st.finished = true := by
  rcases h with rfl | rfl | rfl <;> rfl

theorem OrderState.not_free_of_finished {st : OrderState} (h : st.finished = true) : st ≠ .free := by
  rintro rfl; cases h

/-- Settles O34: each request's checks in their order, on the idled port. -/
theorem ordersRearmedAndReleased : Obligations.OrdersRearmedAndReleased := by
  unfold Obligations.OrdersRearmedAndReleased
  intro s b o ht hv hb
  have owner : ∀ {act : OrderId → Taken}, (s.order o).state ≠ .free →
      onOrder b (idlePort .station s) act = act o := fun f => onOrder_eq (s := idlePort .station s) hb hv f
  refine ⟨fun e => ?_, fun ne nf => ?_, fun e => ?_, fun e => ⟨fun carries => ?_, fun t g => ?_⟩⟩
  · refine request_answered ht ((owner (by rw [e]; nofun)).trans ?_)
    rw [if_pos (by exact e)]
    simp only [Taken.done, wake_eq]
    exact congrArg (Taken.mk · _ _) (woken_setRx .station .idle
      (s.setOrder o { s.order o with state := .ready, retriesLeft := (s.order o).retryLimit }))
  · exact request_refused ht ((owner nf).trans (if_neg ne))
  · have nf : (s.order o).state ≠ .free := by rcases e with e | e | e <;> rw [e] <;> nofun
    exact request_refused ht ((owner nf).trans (if_pos
      (congrArg (!·) (OrderState.not_finished (st := (s.order o).state) e))))
  all_goals
    have fin := OrderState.finished_of e
    have live : ¬(!((idlePort .station s).order o).state.finished) = true :=
      Bool.eq_false_iff.mp (congrArg (!·) fin)
    have nf := OrderState.not_free_of_finished fin
  · exact request_refused ht ((owner nf).trans ((if_neg live).trans (if_pos carries)))
  · refine request_answered ht ((owner nf).trans ((if_neg live).trans (if_neg ?_)))
    exact not_or.mpr ⟨not_not.mpr t, not_not.mpr g⟩

/-! ### ADD ORDER (R24) -/

theorem alongOf_place (al : Along) : alongOf (BitVec.ofNat 8 al.place) = some al := by cases al <;> rfl
theorem acrossOf_place (ac : Across) : acrossOf (BitVec.ofNat 8 ac.place) = some ac := by cases ac <;> rfl
theorem flagOf_toNat (c : Bool) : flagOf (BitVec.ofNat 8 c.toNat) = some c := by cases c <;> rfl

theorem clampNat_zero (hi x : Nat) : clampNat 0 hi x = min hi x := by
  unfold clampNat; split
  · omega
  · split <;> omega

/-- ADD ORDER's fields in their ranges, the target clamped (R23). -/
theorem orderFields_eq {lot : BitVec 16} {b : Byte} {h : HoldId} (target : BitVec 32) (al : Along) (ac : Across) (c n : Bool)
    {retry : Nat} (l : lot ≠ 0) (hb : b.toNat = h.val + 1) (r : retry ≤ 3) :
    orderFields lot b target (BitVec.ofNat 8 al.place) (BitVec.ofNat 8 ac.place) (BitVec.ofNat 8 c.toNat)
      (BitVec.ofNat 8 n.toNat) (BitVec.ofNat 8 retry) =
      some ⟨lot.toNat, h, min 50000000 target.toNat, (al, ac), c, n, retry⟩ := by
  have small : (BitVec.ofNat 8 retry).toNat = retry := by simp; omega
  simp only [orderFields, holdOf_eq hb, alongOf_place, acrossOf_place, flagOf_toNat, small, clampNat_zero, if_pos (And.intro l r)]

theorem State.freeOrder_none (h : ∀ o, (s.order o).state ≠ .free) : s.freeOrder = none := by
  simp [State.freeOrder, List.find?_eq_none, h]

/-- The lowest-numbered slot that passes a test is the one found. -/
theorem find?_finRange {n : Nat} {f : Fin n → Bool} {o : Fin n} (h : f o = true) (l : ∀ k < o, f k = false) :
    (List.finRange n).find? f = some o := by
  rw [List.find?_eq_some_iff_getElem]
  refine ⟨h, o.val, by simp, by simp, fun j hj => ?_⟩
  have := l ⟨j, hj.trans o.isLt⟩ hj
  simpa using this

theorem State.freeOrder_eq {o : OrderId} (h : (s.order o).state = .free) (l : ∀ k < o, (s.order k).state ≠ .free) :
    s.freeOrder = some o :=
  find?_finRange (by simp [h]) fun k hk => by simpa using l k hk

theorem takeAddOrder_unknown {f : OrderFields} (v : s.vesselOpen = true)
    (e : (s.hold f.hold).declared = false ∨ s.lotSlot f.lot = none) :
    takeAddOrder (some f) s = .refuse s .unknown := by
  rw [takeAddOrder, whileOpen_eq rfl v]
  rcases e with e | e
  · rw [if_pos (by simp [e])]
  · simp [e]

theorem takeAddOrder_closing {f : OrderFields} {l : LotSlot} (v : s.vesselOpen = true)
    (d : (s.hold f.hold).declared = true) (e : s.lotSlot f.lot = some l) (c : (s.lot l).state = .closing) :
    takeAddOrder (some f) s = .refuse s .state := by
  rw [takeAddOrder, whileOpen_eq rfl v]
  simp [d, e, c]

theorem takeAddOrder_full {f : OrderFields} {l : LotSlot} (v : s.vesselOpen = true)
    (d : (s.hold f.hold).declared = true) (e : s.lotSlot f.lot = some l) (c : (s.lot l).state = .opened)
    (x : s.freeOrder = none) : takeAddOrder (some f) s = .refuse s .full := by
  rw [takeAddOrder, whileOpen_eq rfl v]
  simp [d, e, c, x]

theorem takeAddOrder_taken {f : OrderFields} {l : LotSlot} {o : OrderId} (v : s.vesselOpen = true)
    (d : (s.hold f.hold).declared = true) (e : s.lotSlot f.lot = some l) (c : (s.lot l).state = .opened)
    (x : s.freeOrder = some o) :
    takeAddOrder (some f) s =
      ⟨((s.setOrder o f.order).setQueue f.hold (s.queue f.hold ++ [o])).woken, .done, orderByte o ++ u32 f.target⟩ := by
  rw [takeAddOrder, whileOpen_eq rfl v]
  simp [d, e, c, x, addOrderAt, wake_eq, Taken.done]

/-- Settles O32: the checks of R23 and R24 in their order, on the idled port. -/
theorem ordersAdded : Obligations.OrdersAdded := by
  unfold Obligations.OrdersAdded
  intro s lot b h target al ac c n retry ht hv hl hb hr
  have fields := orderFields_eq target al ac c n hl hb hr
  have owner : ∀ {x : Taken}, takeAddOrder (some ⟨lot.toNat, h, min 50000000 target.toNat, (al, ac), c, n, retry⟩)
      (idlePort .station s) = x → takeAddOrder (orderFields lot b target (BitVec.ofNat 8 al.place)
      (BitVec.ofNat 8 ac.place) (BitVec.ofNat 8 c.toNat) (BitVec.ofNat 8 n.toNat) (BitVec.ofNat 8 retry))
      (idlePort .station s) = x := fun e => by rw [fields]; exact e
  refine ⟨fun e => request_refused ht (owner (takeAddOrder_unknown (s := idlePort .station s) hv e)),
    fun l d found => ⟨fun cl => ?_, fun op none_ => ?_, fun o op free low => ?_⟩⟩
  · exact request_refused ht (owner (takeAddOrder_closing (s := idlePort .station s) hv d found cl))
  · exact request_refused ht (owner (takeAddOrder_full (s := idlePort .station s) hv d found op
      (State.freeOrder_none (s := idlePort .station s) none_)))
  · refine request_answered ht (owner ((takeAddOrder_taken (s := idlePort .station s)
      (f := ⟨lot.toNat, h, min 50000000 target.toNat, (al, ac), c, n, retry⟩) hv d found op
      (State.freeOrder_eq (s := idlePort .station s) free low)).trans ?_))
    exact congrArg (Taken.mk · _ _) (woken_setRx .station .idle ((s.setOrder o
      ⟨.ready, lot.toNat, some h, min 50000000 target.toNat, 0, 0, 0, 0, some (al, ac), c, n, retry, retry, none,
        none⟩).setQueue h (s.queue h ++ [o])))

end Sys2Proof.Machine
end

section
/-! SET PASS and CLEAR PASS (R37 to R39): both edit the staged list, which is committed at once in STOPPED, HELD and COMPLETE. -/

set_option Elab.async false

namespace Sys2Proof.Machine

variable {s : State}

theorem holdOf_place (h : HoldId) : holdOf (BitVec.ofNat 8 (h.val + 1)) = some h := by
  have := h.isLt
  exact holdOf_eq (by simp; omega)

theorem mapM_holdOf_place (hs : List HoldId) : (hs.map fun h => BitVec.ofNat 8 (h.val + 1)).mapM holdOf = some hs := by
  induction hs with
  | nil => rfl
  | cons h hs ih => simp [List.mapM_cons, holdOf_place, ih]

theorem holdListOf_places {hs : List HoldId} (ne : hs ≠ []) (nd : hs.Nodup) :
    holdListOf (hs.map fun h => BitVec.ofNat 8 (h.val + 1)) = some hs := by
  rw [holdListOf, mapM_holdOf_place]
  exact if_pos ⟨ne, nd⟩

/-- A chain of distinct holds fits a frame. -/
theorem setPass_wellFormed (p : Port) (b : Byte) {hs : List HoldId} (nd : hs.Nodup) :
    (Instr.setPass p b (hs.map fun h => BitVec.ofNat 8 (h.val + 1))).wellFormed = true := by
  have : hs.length ≤ 8 := by simpa using nd.length_le_card
  simp only [Instr.wellFormed, List.length_map, decide_eq_true_eq]
  omega

/-- The answer to an edit of the staged list, without its checks. -/
def passesEdit (staged : Vector (List HoldId) 12) (s : State) : Taken :=
  .done (editPasses staged s) (yes (editPasses staged s).passes.pendingEdit)

theorem takeSetPass_eq {b : Byte} {n : PassId} {hs : List HoldId} (hb : b.toNat = n.val + 1) (v : s.vesselOpen = true)
    (ne : hs ≠ []) (nd : hs.Nodup) :
    takeSetPass b (hs.map fun h => BitVec.ofNat 8 (h.val + 1)) s = passesEdit (s.passes.staged.set n hs) s :=
  whileOpen_eq (x := (n, hs)) (by rw [passOf_eq hb, holdListOf_places ne nd]; rfl) v

theorem takeClearPass_one {b : Byte} {n : PassId} (hb : b.toNat = n.val + 1) (v : s.vesselOpen = true) :
    takeClearPass b s = passesEdit (s.passes.staged.set n []) s := by
  have nz : b ≠ 0 := by rintro rfl; simp at hb
  exact whileOpen_eq (x := some n) (by rw [clearPassOf, if_neg nz, passOf_eq hb]; rfl) v

theorem takeClearPass_all (v : s.vesselOpen = true) : takeClearPass 0 s = passesEdit (Vector.replicate 12 []) s :=
  whileOpen_eq (x := none) rfl v

/-- A wake event with no edit pending leaves none pending. -/
theorem woken_pendingEdit (e : s.passes.pendingEdit = false) : s.woken.passes.pendingEdit = false := by
  have rounds : { s with sched.state := .seeking }.roundStarted.passes.pendingEdit = false := by
    simp [State.roundStarted, e]
  unfold State.woken
  cases s.sched.state with
  | held | complete => exact rounds
  | _ => exact e

/-- In STOPPED, HELD and COMPLETE an edit takes effect within the request (R37). -/
theorem editPasses_commits {staged : Vector (List HoldId) 12}
    (e : s.sched.state = .stopped ∨ s.sched.state = .held ∨ s.sched.state = .complete) :
    editPasses staged s = if staged = s.passes.inEffect then { s with passes := ⟨staged, staged, false⟩ }
      else { s with passes := ⟨staged, staged, false⟩ }.woken := by
  unfold editPasses
  rcases e with e | e | e <;> simp only [e, wake_eq] <;> rfl

/-- In every other state an edit waits (R37). -/
theorem editPasses_waits {staged : Vector (List HoldId) 12}
    (e : s.sched.state = .seeking ∨ s.sched.state = .halted ∨ s.sched.state.isPour = true) :
    editPasses staged s = { s with passes := ⟨s.passes.inEffect, staged, true⟩ } := by
  unfold editPasses
  split
  · next k => rcases e with e | e | e <;> rw [k] at e <;> cases e
  · next k => rcases e with e | e | e <;> rw [k] at e <;> cases e
  · next k => rcases e with e | e | e <;> rw [k] at e <;> cases e
  all_goals rfl

/-- The three requests that edit the list, each as the edit it makes on the idled port. -/
theorem exec_passesEdit {i : Instr} {b code : Byte} {n : PassId} {staged : Vector (List HoldId) 12} {t : State} {items : List Byte}
    (ht : s.takes .station) (hv : s.vesselOpen = true) (hb : b.toNat = n.val + 1)
    (hi : (∃ hs : List HoldId, hs ≠ [] ∧ hs.Nodup ∧ code = 0x04 ∧ staged = s.passes.staged.set n hs ∧
        i = .setPass .station b (hs.map fun h => BitVec.ofNat 8 (h.val + 1))) ∨
      (code = 0x05 ∧ staged = s.passes.staged.set n [] ∧ i = .clearPass .station b) ∨
      (code = 0x05 ∧ staged = Vector.replicate 12 [] ∧ i = .clearPass .station 0))
    (e : passesEdit staged (idlePort .station s) = ⟨idlePort .station t, .done, items⟩) :
    exec i s = .next (t.answered .station code .done items) := by
  rcases hi with ⟨hs, ne, nd, rfl, rfl, rfl⟩ | ⟨rfl, rfl, rfl⟩ | ⟨rfl, rfl, rfl⟩
  · exact request_answered ht ((takeSetPass_eq (s := idlePort .station s) hb hv ne nd).trans e) (setPass_wellFormed _ _ nd)
  · exact request_answered ht ((takeClearPass_one (s := idlePort .station s) hb hv).trans e)
  · exact request_answered ht ((takeClearPass_all (s := idlePort .station s) hv).trans e)

/-- Settles O35: an edit by the scheduler's state, whichever request makes it. -/
theorem passesEdited : Obligations.PassesEdited := by
  unfold Obligations.PassesEdited
  intro s b n i code staged ht hv hb hi
  let w : State := { s with passes := ⟨staged, staged, false⟩ }
  refine ⟨fun e => ⟨fun same => ?_, fun differ => ?_⟩, fun e => ?_⟩
  · refine exec_passesEdit ht hv hb hi ?_
    rw [passesEdit, editPasses_commits (s := idlePort .station s) e, if_pos (by exact same)]
    rfl
  · refine exec_passesEdit (t := w.woken) ht hv hb hi ?_
    rw [passesEdit, editPasses_commits (s := idlePort .station s) e, if_neg (by exact differ),
      woken_pendingEdit (by rfl)]
    exact congrArg (Taken.mk · _ _) (woken_setRx .station .idle w)
  · refine exec_passesEdit ht hv hb hi ?_
    rw [passesEdit, editPasses_waits (s := idlePort .station s) e]
    rfl

end Sys2Proof.Machine
end

section
/-! Immediate ends and halts as events bring them about (R57, R64, R76, R79, R87): the running confirm input, the emergency stop input
and the faults of the axes. -/

set_option Elab.async false

namespace Sys2Proof.Machine

variable {s : State} {o : OrderId}

/-! ### Halts -/

theorem orderFaulted_sched (o : OrderId) (k : FaultKind) (s : State) : (s.orderFaulted o k).sched = s.sched := by
  unfold State.orderFaulted
  dsimp only
  split
  · rfl
  · split <;> rfl

theorem orderFaulted_vesselOpen (o : OrderId) (k : FaultKind) (s : State) : (s.orderFaulted o k).vesselOpen = s.vesselOpen := by
  unfold State.orderFaulted
  dsimp only
  split
  · rfl
  · split <;> rfl

theorem pourOver_vesselOpen (s : State) : s.pourOver.vesselOpen = s.vesselOpen := by
  have vessel : s.ship.commit.vessel = s.ship.vessel := by unfold Ship.commit; split <;> rfl
  simp only [State.vesselOpen, State.pourOver, vessel]

/-- A FAULT that halts the scheduler (R57, R76, R78). -/
theorem immediateEnd_fault_halt {f : FaultKind} {c : HaltCause} (p : s.pourOrder = some o) (v : s.vesselOpen = true) :
    immediateEnd (.fault f) (.halt c) s = (s.orderFaulted o f).pourOver.rested .halted (s.sched.halts.add c) := by
  have open_ : (s.orderFaulted o f).pourOver.vesselOpen = true :=
    (pourOver_vesselOpen _).trans ((orderFaulted_vesselOpen o f s).trans v)
  have sched : (s.orderFaulted o f).pourOver.sched = s.sched := orderFaulted_sched o f s
  rw [immediateEnd_fault p, afterImmediate, if_pos open_,
    raiseHalt_eq open_ ((congrArg (·.state.isPour) sched).trans (isPour_of_pourOrder p)), sched]

/-- A YIELD that halts the scheduler (R28, R57, R76). -/
theorem immediateEnd_yield_halt {c : HaltCause} (p : s.pourOrder = some o) (v : s.vesselOpen = true) :
    immediateEnd .yield (.halt c) s = (s.orderYielded o).pourOver.rested .halted (s.sched.halts.add c) := by
  have open_ : (s.orderYielded o).pourOver.vesselOpen = true := (pourOver_vesselOpen _).trans v
  rw [immediateEnd_yield p, afterImmediate, if_pos open_, raiseHalt_eq open_ (isPour_of_pourOrder p)]
  rfl

theorem pourOrder_none (n : s.sched.state.isPour = false) : s.pourOrder = none := by
  rw [State.pourOrder, n]; rfl

/-- An immediate end outside a pour is nothing (R76). -/
theorem immediateEnd_none (c : ImmediateCause) (k : After) (n : s.sched.state.isPour = false) : immediateEnd c k s = s := by
  rw [immediateEnd, pourOrder_none n]

/-- A halt cause that ends a pour with YIELD (R57, R76). -/
theorem haltWith_pour {c : HaltCause} (p : s.pourOrder = some o) (v : s.vesselOpen = true) :
    haltWith .yield c s = (s.orderYielded o).pourOver.rested .halted (s.sched.halts.add c) := by
  rw [haltWith, p]
  exact immediateEnd_yield_halt p v

/-- A halt cause outside a pour (R57). -/
theorem haltWith_idle (e : ImmediateCause) (c : HaltCause) (n : s.sched.state.isPour = false) : haltWith e c s = raiseHalt c s := by
  rw [haltWith, pourOrder_none n]; rfl

/-- No halt cause is recorded while no vessel is open (R57). -/
theorem raiseHalt_closed (c : HaltCause) (v : s.vesselOpen = false) : raiseHalt c s = s := by
  simp [raiseHalt, v]

/-- The scheduler halts (R57). -/
theorem raiseHalt_enters {c : HaltCause} (v : s.vesselOpen = true) (n : s.sched.state ≠ .halted) :
    raiseHalt c s = s.rested .halted (s.sched.halts.add c) := by
  simp [raiseHalt, v, n, enterState, clearHeld, SchedState.resting, Ne.symm n, State.rested]

/-- A halt cause that stands already, in HALTED (R57, R59). -/
theorem raiseHalt_again {c : HaltCause} (e : s.sched.state = .halted) (h : s.sched.halts.has c = true) : raiseHalt c s = s := by
  simp [raiseHalt, e, h]

/-- A halt cause that joins the set in HALTED (R57, R59). -/
theorem raiseHalt_joins {c : HaltCause} (v : s.vesselOpen = true) (e : s.sched.state = .halted)
    (h : s.sched.halts.has c = false) :
    raiseHalt c s = raise .schedule { s with sched.halts := s.sched.halts.add c } := by
  simp [raiseHalt, v, e, h]

theorem HaltSet.add_of_has {h : HaltSet} {c : HaltCause} (e : h.has c = true) : h.add c = h := by
  cases c <;> simp only [HaltSet.has] at e <;> simp only [HaltSet.add, ← e]

/-! ### The running confirm input (R64) -/

theorem beltFailure_eq (p : s.pourOrder = some o) (v : s.vesselOpen = true) :
    beltFailure s = (s.orderFaulted o .belt).pourOver.rested .halted (s.sched.halts.add .belt) :=
  immediateEnd_fault_halt p v

theorem confirmChanged_drop (nr : s.inReset = false) (e : s.pour.supervision = .running) :
    confirmChanged false s = beltFailure { s with inputs.beltConfirm := false } := by
  simp [confirmChanged, nr, e]

theorem confirmExpired_starting {t : Time} (e : s.pour.supervision = .starting) (d : s.pour.confirmDeadline = some t) :
    confirmExpired s = beltFailure { s with now := max s.now t } := by
  simp [confirmExpired, e, d, reachTime]

/-- Settles O42: by the state of the supervision. -/
theorem beltSupervised : Obligations.BeltSupervised := by
  unfold Obligations.BeltSupervised
  intro s nr
  have changed : ∀ b, exec (.beltConfirmChange b) s = .next (confirmChanged b s) := fun _ => rfl
  have expiry : exec .confirmDeadlineExpiry s = .next (confirmExpired s) := event_taken nr
  refine ⟨fun e => ?_, fun b e => ?_, fun o p v => ⟨fun e => ?_, fun t e d => ?_⟩, fun e => ?_⟩
  · rw [changed]; simp [confirmChanged, nr, e]
  · rw [changed]
    rcases e with e | ⟨e, rfl⟩ | ⟨e, rfl⟩ <;> simp [confirmChanged, nr, e]
  · rw [changed, confirmChanged_drop nr e, beltFailure_eq (s := { s with inputs.beltConfirm := false }) p v]
  · rw [expiry, confirmExpired_starting e d, beltFailure_eq (s := { s with now := max s.now t }) p v]
  · rw [expiry, confirmExpired]
    split
    · next k _ => exact absurd k e
    · rfl

/-! ### The emergency stop input (R79) -/

theorem AxisRec.halt_halt (now : Time) (r : AxisRec) : (r.halt now).halt now = r.halt now := by
  unfold AxisRec.halt
  cases e : r.state <;> simp [e]

theorem stopAxes_of_stopped {w : State} (e : w.axes = s.axes.map (AxisRec.halt w.now)) : stopAxes w = w := by
  have : w.axes.map (AxisRec.halt w.now) = w.axes := by
    rw [e]
    simp only [PerAxis.map, AxisRec.halt_halt]
  rw [stopAxes, this]

/-- Settles O43: a release; then an assertion by the scheduler's state and the vessel. -/
theorem emergencyStops : Obligations.EmergencyStops := by
  unfold Obligations.EmergencyStops
  intro s nr
  let w : State := { s with inputs.eStop := true }
  have asserted : exec .emergencyStopAssert s = .next { stopAxes (haltWith .yield .estop w) with dust.hornOn := true } := by
    change Host.Outcome.next (if s.inReset then w else emergencyStop w) = _
    rw [nr]; rfl
  rw [asserted]
  refine ⟨rfl, fun o v p => ?_, fun v n nh => ?_, fun v e => ⟨_, rfl, ?_⟩, fun v n => ?_⟩
  · rw [haltWith_pour (s := w) p v, stopAxes_of_stopped (s := w) rfl]
    rfl
  · rw [haltWith_idle (s := w) _ _ n, raiseHalt_enters (s := w) v nh]
    rfl
  · rw [haltWith_idle (s := w) _ _ (by rw [show w.sched.state = .halted from e]; rfl)]
    cases h : s.sched.halts.estop with
    | true =>
      rw [raiseHalt_again (s := w) (c := .estop) e h, if_pos rfl, HaltSet.add_of_has (c := .estop) h]
      rfl
    | false =>
      rw [raiseHalt_joins (s := w) (c := .estop) v e h]
      rfl
  · rw [haltWith_idle (s := w) _ _ n, raiseHalt_closed (s := w) _ v]
    rfl

/-! ### The faults of the axes (R83, R86 to R88) -/

/-- An axis that enters FAULT outside a pour (R87). -/
theorem failAxis_idle {a : Axis} {why : AxisReason} (f : (s.axis a).state ≠ .fault) (n : s.sched.state.isPour = false) :
    failAxis a why s = raise .axisFault (s.setAxis a ((s.axis a).fail why)) := by
  rw [failAxis, if_neg f]
  exact immediateEnd_none _ _ n

/-- An axis that enters FAULT in a pour (R78, R87). -/
theorem failAxis_pour {a : Axis} {why : AxisReason} (f : (s.axis a).state ≠ .fault) (p : s.pourOrder = some o)
    (v : s.vesselOpen = true) :
    failAxis a why s = ((raise .axisFault (s.setAxis a ((s.axis a).fail why))).orderFaulted o .axis).pourOver.rested .halted
      (s.sched.halts.add .axis) := by
  rw [failAxis, if_neg f]
  exact immediateEnd_fault_halt (s := raise .axisFault (s.setAxis a ((s.axis a).fail why))) p v

/-- The four causes bring the axis to `failAxis`, in a state that differs in nothing that decides what follows. -/
theorem exec_axisFault {a : Axis} {c : Instr} {why : AxisReason} {t : State} (nr : s.inReset = false)
    (h : (∃ d, (s.axis a).classDeadline = some d ∧ c = .classDeadlineExpiry a ∧ why = .cls ∧ t = { s with now := max s.now d }) ∨
      (∃ d, (s.axis a).state = .moving ∧ (s.axis a).moveDeadline = some d ∧ c = .moveDeadlineExpiry a ∧ why = .deadline ∧
        t = { s with now := max s.now d }) ∨
      (c = .driveFaultAssert a ∧ why = .drive ∧ t = { s with inputs.driveFault := s.inputs.driveFault.set a true }) ∨
      (∃ v : BitVec 32, (s.axis a).state ≠ .fault ∧
        (v.toInt < s.settings.lower.get a - 200 ∨ s.settings.upper.get a + 200 < v.toInt) ∧ c = .positionArrival a v ∧
        why = .range ∧ t = s.setAxis a { s.axis a with position := some v.toInt })) :
    exec c s = .next (failAxis a why t) ∧ (t.axis a).state = (s.axis a).state ∧ t.sched = s.sched ∧ t.ship = s.ship := by
  rcases h with ⟨d, e, rfl, rfl, rfl⟩ | ⟨d, m, e, rfl, rfl, rfl⟩ | ⟨rfl, rfl, rfl⟩ | ⟨v, nf, out, rfl, rfl, rfl⟩
  · refine ⟨(event_taken nr).trans ?_, rfl, rfl, rfl⟩
    simp only [classExpired, e]; rfl
  · refine ⟨(event_taken nr).trans ?_, rfl, rfl, rfl⟩
    simp only [moveExpired, m, e]; rfl
  · refine ⟨?_, rfl, rfl, rfl⟩
    change Host.Outcome.next (if s.inReset then _ else _) = _
    rw [nr]; rfl
  · refine ⟨(event_taken nr).trans ?_, by simp, by simp, by simp⟩
    have far : s.outOfRange a v.toInt = true := by simpa [State.outOfRange] using out
    simp only [positionArrived, far, and_true, if_pos nf]

/-- Settles O49: what enters FAULT, by cause; what follows, by the axis and the scheduler. -/
theorem axesFault : Obligations.AxesFault := by
  unfold Obligations.AxesFault
  intro s a c why t nr h
  obtain ⟨run, state, sched, ship⟩ := exec_axisFault nr h
  have order : s.pourOrder = t.pourOrder := pourOrder_congr (by rw [sched]) (by rw [sched])
  have open_ : s.vesselOpen = t.vesselOpen := by simp only [State.vesselOpen, ship]
  rw [run]
  refine ⟨fun f => ?_, fun nf n => ?_, fun o nf p v => ?_, rfl⟩
  · rw [failAxis, if_pos (state.trans f)]
  · rw [failAxis_idle (state ▸ nf) (by rw [sched]; exact n)]
    rfl
  · rw [failAxis_pour (state ▸ nf) (order ▸ p) (open_ ▸ v), sched]
    rfl

end Sys2Proof.Machine
end

section
/-! What an end of a pour leaves, beside a port's receive condition, and the batch reports that end one (R126, R129). -/

set_option Elab.async false

namespace Sys2Proof.Machine

variable {s : State} {o : OrderId}

/-! ### Ends beside a receive condition -/

/-- A flag raised in a state that is another beside a receive condition. -/
theorem raise_setRx_of {f : EventFlag} {p : Port} {x : Receive} {v w : State} (e : v = w.setRx p x) :
    raise f v = (raise f w).setRx p x := e ▸ raise_setRx f p x w

theorem orderFaulted_setRx (o : OrderId) (k : FaultKind) (p : Port) (x : Receive) (s : State) :
    (s.setRx p x).orderFaulted o k = (s.orderFaulted o k).setRx p x := by
  unfold State.orderFaulted
  simp only [show ∀ o, (s.setRx p x).order o = s.order o from fun _ => rfl]
  split
  · rfl
  · split
    · rfl
    · exact raise_setRx_of rfl

theorem rested_setRx (st : SchedState) (h : HaltSet) (p : Port) (x : Receive) (s : State) :
    (s.setRx p x).rested st h = (s.rested st h).setRx p x :=
  raise_setRx .schedule p x { s with
    sched := ⟨st, s.sched.pass, s.sched.pos, s.sched.progress, Vector.replicate 8 none, h, none, false⟩ }

theorem cursorOn_setRx (p : Port) (x : Receive) (s : State) : (s.setRx p x).cursorOn = s.cursorOn.setRx p x := by
  unfold State.cursorOn
  rw [show (s.setRx p x).nextPosition = s.nextPosition from rfl]
  cases s.nextPosition <;> rfl

theorem roundEnded_setRx (p : Port) (x : Receive) (s : State) : (s.setRx p x).roundEnded = s.roundEnded.setRx p x := by
  unfold State.roundEnded
  rw [show (s.setRx p x).sched.progress = s.sched.progress from rfl]
  split
  · rfl
  · exact raise_setRx_of rfl

theorem walkedOn_setRx (p : Port) (x : Receive) (s : State) : (s.setRx p x).walkedOn = s.walkedOn.setRx p x := by
  unfold State.walkedOn
  rw [show (s.setRx p x).sched.stepFlag = s.sched.stepFlag from rfl,
    show (s.setRx p x).nextPosition = s.nextPosition from rfl, cursorOn_setRx]
  split
  · exact raise_setRx .schedule p x { s.cursorOn with sched.state := .stopped, sched.active := none, sched.stepFlag := false }
  · dsimp only
    split
    · exact roundEnded_setRx p x { s.cursorOn with sched.state := .seeking, sched.active := none }
    · rfl

/-- A FAULT after which the scheduler walks on (R54, R76). -/
theorem immediateEnd_fault_walk {f : FaultKind} (p : s.pourOrder = some o) :
    immediateEnd (.fault f) .walk s = (s.orderFaulted o f).pourOver.walkedOn := by
  rw [immediateEnd_fault p, afterImmediate, walkOn_eq]
  exact (congrArg (·.state.isPour) (orderFaulted_sched o f s)).trans (isPour_of_pourOrder p)

/-- A YIELD after which the scheduler walks on (R28, R54, R76). -/
theorem immediateEnd_yield_walk (p : s.pourOrder = some o) :
    immediateEnd .yield .walk s = (s.orderYielded o).pourOver.walkedOn := by
  rw [immediateEnd_yield p, afterImmediate, walkOn_eq]
  exact isPour_of_pourOrder (s := s) p

/-! ### The fields of a report -/

theorem noOtherFlag (flags : Byte) : flags &&& 0xFC = 0 ↔ flags.toNat < 4 := by
  revert flags; decide

theorem reportFits_eq (batch : BitVec 16) (gross tare : BitVec 32) (flags : Byte) :
    reportFits batch gross tare flags = true ↔
      batch ≠ 0 ∧ gross.toNat ≤ 16777215 ∧ tare.toNat ≤ 16777215 ∧ flags.toNat < 4 := by
  simp only [reportFits, Bool.and_eq_true, bne_iff_ne, decide_eq_true_eq, beq_iff_eq, noOtherFlag, and_assoc]

/-! ### Refused reports (R126) -/

theorem takeBatchReport_unfit {batch : BitVec 16} {gross tare : BitVec 32} {flags : Byte}
    (h : batch = 0 ∨ 16777215 < gross.toNat ∨ 16777215 < tare.toNat ∨ 4 ≤ flags.toNat) :
    takeBatchReport batch gross tare flags s = .refuse s .badField := by
  have : reportFits batch gross tare flags ≠ true := by
    rw [Ne, reportFits_eq]
    rintro ⟨b, g, t, f⟩
    rcases h with h | h | h | h
    · exact b h
    all_goals omega
  simp [takeBatchReport, this]

theorem takeBatchReport_refused {batch : BitVec 16} {gross tare : BitVec 32} {flags : Byte} {what : ReportOutcome} {r : Result}
    (fits : reportFits batch gross tare flags = true)
    (h : (s.weigh.grant = none ∧ what = .noGrant ∧ r = .noGrant) ∨
      (∃ g, s.weigh.grant = some g ∧ g.batch ≠ batch.toNat ∧ what = .mismatch ∧ r = .mismatch)) :
    takeBatchReport batch gross tare flags s = refuseReport batch.toNat gross.toNat tare.toNat what r s := by
  rcases h with ⟨e, rfl, rfl⟩ | ⟨g, e, ne, rfl, rfl⟩
  · simp [takeBatchReport, fits, e]
  · simp [takeBatchReport, fits, e, ne]

/-- A report refused with NO_GRANT or MISMATCH: what its halt cause makes of the state in which the report is written. -/
theorem exec_refusedReport {batch : BitVec 16} {gross tare : BitVec 32} {flags : Byte} {what : ReportOutcome} {r : Result}
    {t u : State} (ht : s.takes .scale) (fits : reportFits batch gross tare flags = true)
    (h : (s.weigh.grant = none ∧ what = .noGrant ∧ r = .noGrant) ∨
      (∃ g, s.weigh.grant = some g ∧ g.batch ≠ batch.toNat ∧ what = .mismatch ∧ r = .mismatch))
    (e : t = raise .scaleAlert { s with weigh.last := some ⟨batch.toNat, gross.toNat, tare.toNat, what⟩ })
    (f : haltWith .yield .scaleProtocol (t.setRx .scale .idle) = u.setRx .scale .idle) :
    exec (.batchReport .scale batch gross tare flags) s = .next (u.answered .scale 0x25 r) := by
  refine request_answered ht ((takeBatchReport_refused (s := idlePort .scale s) fits h).trans ?_)
  rw [e, ← raise_setRx] at f
  exact congrArg (Taken.mk · r []) f

/-- Settles O53: the checks of the fields; then the halt cause by the vessel and the scheduler's state. -/
theorem reportsRefused : Obligations.ReportsRefused := by
  unfold Obligations.ReportsRefused
  intro s batch gross tare flags ht
  refine ⟨fun h => request_refused ht (takeBatchReport_unfit h), fun what r t b g ta f h e => ?_⟩
  have answered : ∀ {u : State}, haltWith .yield .scaleProtocol (t.setRx .scale .idle) = u.setRx .scale .idle →
      exec (.batchReport .scale batch gross tare flags) s = .next (u.answered .scale 0x25 r) :=
    exec_refusedReport ht ((reportFits_eq ..).mpr ⟨b, g, ta, f⟩) h e
  have sched : (t.setRx .scale .idle).sched = s.sched := by rw [e]; rfl
  have ship : (t.setRx .scale .idle).vesselOpen = s.vesselOpen := by rw [e]; rfl
  have order : (t.setRx .scale .idle).pourOrder = s.pourOrder := pourOrder_congr (by rw [sched]) (by rw [sched])
  have idle : s.sched.state.isPour = false →
      haltWith .yield .scaleProtocol (t.setRx .scale .idle) = raiseHalt .scaleProtocol (t.setRx .scale .idle) :=
    fun n => haltWith_idle _ _ (by rw [sched]; exact n)
  have notPour : s.sched.state = .halted → s.sched.state.isPour = false := fun k => by rw [k]; rfl
  refine ⟨fun v n => ?_, fun v k c => ?_, fun v k c => ?_, fun v n nh => ?_, fun o v p => ?_⟩ <;> apply answered
  · rw [idle n, raiseHalt_closed _ (ship.trans v)]
  · rw [idle (notPour k), raiseHalt_again (by rw [sched, k]) (by rw [sched]; exact c)]
  · rw [idle (notPour k), raiseHalt_joins (ship.trans v) (by rw [sched, k]) (by rw [sched]; exact c)]
    exact raise_setRx .schedule .scale .idle { t with sched.halts := t.sched.halts.add .scaleProtocol }
  · rw [idle n, raiseHalt_enters (ship.trans v) (by rw [sched]; exact nh), rested_setRx, sched, State.rested,
      show t.sched = s.sched from sched]
  · rw [haltWith_pour (order.trans p) (ship.trans v), sched]
    exact rested_setRx .halted _ .scale .idle (t.orderYielded o).pourOver

/-! ### Reports with the FAULT flag (R129) -/

theorem countUp_below {n : Nat} (h : n < 4294967295) : countUp n = n + 1 :=
  if_pos (by omega)

/-- The state in which a report of grant `g` of lot `l` with the FAULT flag has been charged. -/
def State.faultCharged (s : State) (g : Grant) (l : LotSlot) (gross tare : Nat) : State :=
  State.setOrder (State.setLot { s with
    weigh := ⟨false, none, s.weigh.nextBatch,
      some ⟨g.batch, gross, tare, .accepted g.order g.lot g.size ⟨false, false, false, false, true⟩⟩⟩
    belt.records := s.belt.records ++ [⟨g.batch, g.lot, g.order, g.size, true, s.belt.counter⟩] } l
      { s.lot l with
        weighed := (s.lot l).weighed + g.size
        uncertified := (s.lot l).uncertified + g.size
        count := (s.lot l).count + 1
        first := if (s.lot l).count = 0 then some g.batch else (s.lot l).first
        last := some g.batch }) g.order
      { s.order g.order with granted := 0, inTransit := (s.order g.order).inTransit + g.size }

/-- What the FAULT flag charges (R129, R130). -/
theorem acceptReport_fault {g : Grant} {l : LotSlot} (gross tare : Nat) (e : s.lotSlot g.lot = some l)
    (c : (s.lot l).count < 4294967295) :
    acceptReport g gross tare g.size .faulted { s with weigh.ready := false } =
      raise .scaleAlert (s.faultCharged g l gross tare) := by
  have e' : ({ s with weigh.ready := false } : State).lotSlot g.lot = some l := e
  have lot : Lot.charge g.batch g.size true (s.lot l) =
      { s.lot l with
        weighed := (s.lot l).weighed + g.size
        uncertified := (s.lot l).uncertified + g.size
        count := (s.lot l).count + 1
        first := if (s.lot l).count = 0 then some g.batch else (s.lot l).first
        last := some g.batch } := by simp [Lot.charge, countUp_below c]
  unfold acceptReport chargeBatch onLot State.faultCharged
  rw [e', ← lot]
  rfl

/-- A report with the FAULT flag, from the state in which it has been charged. -/
theorem takeBatchReport_fault {g : Grant} {l : LotSlot} {batch : BitVec 16} {gross tare : BitVec 32} {unstable : Bool}
    (b : batch ≠ 0) (gr : gross.toNat ≤ 16777215) (ta : tare.toNat ≤ 16777215) (eg : s.weigh.grant = some g)
    (n : g.batch = batch.toNat) (e : s.lotSlot g.lot = some l) (c : (s.lot l).count < 4294967295) :
    takeBatchReport batch gross tare (BitVec.ofNat 8 (2 + unstable.toNat)) s =
      ⟨if s.pourOrder = some g.order then
          immediateEnd (.fault .scale) .walk (raise .scaleAlert (s.faultCharged g l gross.toNat tare.toNat))
        else raise .scaleAlert (s.faultCharged g l gross.toNat tare.toNat), .done, u16 g.size ++ [0x10]⟩ := by
  have fault : (BitVec.ofNat 8 (2 + unstable.toNat)).getLsbD 1 = true := by cases unstable <;> rfl
  have fits : reportFits batch gross tare (BitVec.ofNat 8 (2 + unstable.toNat)) = true :=
    (reportFits_eq ..).mpr ⟨b, gr, ta, by cases unstable <;> decide⟩
  have owner : takeBatchReport batch gross tare (BitVec.ofNat 8 (2 + unstable.toNat)) s =
      .done (faultReport g gross.toNat tare.toNat s) (u16 g.size ++ [0x10]) := by
    have byte : Uncertified.faulted.byte = [0x10] := rfl
    simp only [takeBatchReport, fits, eg, n, takeAccepted, fault, byte, Bool.not_true, Bool.false_eq_true, ne_eq,
      not_true_eq_false, if_false, if_true]
  rw [owner, faultReport, acceptReport_fault _ _ e c]
  rfl

/-- Settles O52: the charge, then the end of the pour where the grant's order is the active one. -/
theorem faultReportsCharged : Obligations.FaultReportsCharged := by
  unfold Obligations.FaultReportsCharged
  intro s g l batch gross tare unstable t ht eg n b gr ta e c et
  have charged : t = s.faultCharged g l gross.toNat tare.toNat := by rw [et, State.faultCharged, n]
  have owner := takeBatchReport_fault (s := idlePort .scale s) (unstable := unstable) b gr ta eg n e c
  have idled : raise .scaleAlert ((idlePort .scale s).faultCharged g l gross.toNat tare.toNat) =
      (raise .scaleAlert t).setRx .scale .idle := by
    rw [charged]
    exact raise_setRx .scaleAlert .scale .idle (s.faultCharged g l gross.toNat tare.toNat)
  rw [idled] at owner
  refine ⟨fun np => request_answered ht (owner.trans ?_), fun p => request_answered ht (owner.trans ?_)⟩
  · rw [if_neg (by exact np)]
    rfl
  · have order : ((raise .scaleAlert t).setRx .scale .idle).pourOrder = some g.order := by rw [charged]; exact p
    rw [if_pos (by exact p), immediateEnd_fault_walk order, orderFaulted_setRx]
    exact congrArg (Taken.mk · _ _) (walkedOn_setRx .scale .idle ((raise .scaleAlert t).orderFaulted g.order .scale).pourOver)

end Sys2Proof.Machine
end

section
/-! The lockout of HEAD, its expiry and the horn (R150 to R159): what a sample makes of a channel, which sources form the exclusion
set, and what an entry of HEAD into STOP hands on. -/

set_option Elab.async false

namespace Sys2Proof.Machine

variable {s t : State} {o : OrderId} {h : HoldId}

/-! ### A channel after a sample (R150 to R152) -/

/-- A valid sample classified out of FAULT, by the bands of its state (R151), the stale timer written. -/
theorem ChannelRec.classify_eq (c : ChannelSettings) (v : Nat) (d : Option Time) (r : ChannelRec) (nf : r.state ≠ .fault) :
    { r.classify c v with staleAt := d } =
      if (r.state = .normal ∧ c.warnOn ≤ v) ∨ (r.state = .warn ∧ c.stopOn ≤ v) then
        if r.up + 1 < c.up then { r with up := r.up + 1, down := 0, staleAt := d }
        else { r with state := if c.stopOn ≤ v then .stop else .warn, up := 0, down := 0, staleAt := d }
      else if (r.state = .warn ∧ v < c.warnOff) ∨ (r.state = .stop ∧ v < c.stopOff) then
        if r.down + 1 < c.down then { r with up := 0, down := r.down + 1, staleAt := d }
        else { r with state := if r.state = .warn then .normal else .warn, up := 0, down := 0, staleAt := d }
      else { r with up := 0, down := 0, staleAt := d } := by
  unfold ChannelRec.classify
  simp only [← Nat.not_le, ite_not, apply_ite (fun x : ChannelRec => { x with staleAt := d })]
  cases e : r.state with
  | normal => simp [inUpBand, inDownBand, risesTo]
  | warn => by_cases b : c.stopOn ≤ v <;> simp [inUpBand, inDownBand, risesTo, fallsTo, b]
  | stop => simp [inUpBand, inDownBand, fallsTo]
  | fault => exact absurd e nf

/-- A channel record after a sample. -/
theorem ChannelRec.sampled_eq (r : ChannelRec) (c : ChannelSettings) (now : Time) (v : Nat) :
    r.sampled now c v = r.after c now v := by
  unfold ChannelRec.sampled ChannelRec.after
  by_cases f : 10000 ≤ v
  · simp [isFaultCode, f, ChannelRec.fail]
  · have nf : ({ r with sample := v, lastArrival := some now } : ChannelRec).recover.state ≠ .fault := by
      unfold ChannelRec.recover; split
      · nofun
      all_goals next e => rw [e]; nofun
    simp only [isFaultCode, decide_eq_true_eq, f, if_false, ChannelRec.classify_eq c v _ _ nf]
    cases e : r.state with
    | normal | warn => simp only [ChannelRec.recover, Config.dustStaleTime]; simp; rfl
    | stop | fault => simp [ChannelRec.recover, Config.dustStaleTime]

/-! ### Which holds the exclusion set names (R20) -/

theorem inSet_holdBit (h k : HoldId) : inSet (holdBit h) k = decide (k = h) := by
  revert h k; decide

theorem inSet_or (m n : HoldSet) (k : HoldId) : inSet (m ||| n) k = (inSet m k || inSet n k) := by
  simp [inSet]

theorem inSet_foldl (hs : List HoldId) (m : HoldSet) (k : HoldId) :
    inSet (hs.foldl (fun m h => m ||| holdBit h) m) k = (inSet m k || decide (k ∈ hs)) := by
  induction hs generalizing m with
  | nil => simp
  | cons h hs ih => simp [ih, inSet_or, inSet_holdBit, Bool.or_assoc]

theorem inSet_setWhere (f : HoldId → Bool) (k : HoldId) : inSet (setWhere f) k = f k := by
  rw [setWhere, setOf, inSet_foldl]
  simp [inSet]

theorem inSet_exclusion (s : State) (k : HoldId) :
    inSet s.exclusion k = (inSet s.suspension.mask k ||
      ((s.hold k).lockout.isSome || ((s.hold k).declared && !(s.hold k).hatchOpen))) := by
  rw [State.exclusion, inSet_or, inSet_setWhere]

/-- A hold that is locked out is excluded. -/
theorem inSet_exclusion_locked (s : State) (k : HoldId) (d : Time) :
    inSet (s.setHold k { s.hold k with lockout := some d }).exclusion k = true := by
  simp [inSet_exclusion]

/-- A lockout that ends takes no hold into the set. -/
theorem inSet_exclusion_unlocked {s : State} {h k : HoldId}
    (e : inSet (s.setHold h { s.hold h with lockout := none }).exclusion k = true) : inSet s.exclusion k = true := by
  rw [inSet_exclusion, State.hold_setHold] at e
  rw [inSet_exclusion]
  by_cases n : k = h
  · subst n
    simp only [if_pos, Bool.or_eq_true] at e ⊢
    exact e.imp_right fun e => .inr (by simpa using e)
  · simpa [n] using e

/-- A set formed anew that takes in no hold (R20). -/
theorem exclusionFormed_shrinks {before : HoldSet} (sub : ∀ k, inSet s.exclusion k = true → inSet before k = true) :
    exclusionFormed before s = s.maskFormed before := by
  unfold exclusionFormed State.maskFormed
  rw [wake_eq]
  split
  · rfl
  · cases p : s.pourHold with
    | none => rfl
    | some h =>
      have : ¬(inSet s.exclusion h && !inSet before h) = true := by
        cases k : inSet s.exclusion h with
        | false => simp
        | true => simp [sub h k]
      simp [this]

/-- A set that has taken in the hold of the pour in progress ends that pour (R20, R21). -/
theorem exclusionFormed_ends {before : HoldSet} (p : s.pourOrder = some o) (ph : s.pourHold = some h)
    (now : inSet s.exclusion h = true) (was : inSet before h = false) :
    exclusionFormed before s = ((raise .maskChanged s).orderYielded o).pourOver.walkedOn := by
  have ne : s.exclusion ≠ before := by rintro rfl; rw [now] at was; cases was
  unfold exclusionFormed
  rw [if_neg ne, wake_pour (s := raise .maskChanged s) (isPour_of_pourOrder (s := s) p)]
  simp only [ph, now, was, Bool.not_false, Bool.and_self, if_true]
  exact immediateEnd_yield_walk (s := raise .maskChanged s) p

/-! ### HEAD enters STOP (R153 to R158) -/

theorem pourHold_none (n : s.sched.state.isPour = false) : s.pourHold = none := by
  rw [State.pourHold, pourOrder_none n]; rfl

theorem track_idle (n : s.sched.state.isPour = false) : track s = s := by
  refine if_neg fun e => ?_
  rcases e with e | e <;> rw [e] at n <;> cases n

/-- Outside a pour a change of the choke does nothing (R97, R100). -/
theorem choke_idle (n : s.sched.state.isPour = false) : settle (recomputeTravel true s) = s := by
  have : recomputeTravel true s = (s, false) := by
    unfold recomputeTravel retakeLower
    rw [pourHold_none n, track_idle n]
    split <;> rfl
  rw [this]; rfl

theorem reasonsDust_same {b : Bool} (e : s.pour.reasons.dust = b) : { s with pour.reasons.dust := b } = s := by
  subst e; rfl

/-- Outside a pour DUST_PLANT is a reason exactly while its condition holds (R67, R157). -/
theorem formDustPlant_idle (n : s.sched.state.isPour = false) :
    formDustPlant s = { s with pour.reasons.dust := s.dustPlant } := by
  have added : addReason .dust s = { s with pour.reasons.dust := true } := by
    unfold addReason
    cases e : s.sched.state with
    | travelling | pouring | paused | draining => rw [e] at n; cases n
    | _ => rfl
  have removed : removeReason .dust s = { s with pour.reasons.dust := false } := by
    unfold removeReason
    rw [if_neg (fun e => by rw [e.1] at n; cases n)]
    rfl
  unfold formDustPlant
  cases d : s.dustPlant <;> cases r : s.pour.reasons.dust <;> dsimp only
  · exact (reasonsDust_same r).symm
  · exact removed
  · exact added
  · exact (reasonsDust_same r).symm

theorem dustPlant_iff (s : State) : s.dustPlant = true ↔ ∃ k, k ≠ Channel.head ∧ s.level k = .stop := by
  simp only [State.dustPlant, Bool.or_eq_true, beq_iff_eq]
  constructor
  · rintro ((((e | e) | e) | e) | e)
    · exact ⟨.transfer, nofun, e⟩
    · exact ⟨.gallery, nofun, e⟩
    · exact ⟨.tower, nofun, e⟩
    · exact ⟨.apron, nofun, e⟩
    · exact ⟨.extract, nofun, e⟩
  · rintro ⟨k, n, e⟩
    cases k with
    | head => exact absurd rfl n
    | _ => simp [e]

theorem beaconOn_of_head (e : s.level .head = .stop) : s.beaconOn = true := by
  simp [State.beaconOn, e]

/-- What an entry of HEAD into STOP hands on, from the state `w` its lockout leaves outside a pour (R153). -/
theorem handOn_headStops {before : ChannelState} {level : Level} {w : State} (ne : level ≠ .stop) (st : t.level .head = .stop)
    (ch : (t.channel .head).state ≠ before) (hw : headStops t = w) (dust : w.dust = t.dust) (settings : w.settings = t.settings)
    (n : w.sched.state.isPour = false) :
    handOn .head before level t =
      raise .dust { w with pour.reasons.dust := t.dustPlant, dust.beacon := true, dust.hornOn := true } := by
  have enters : entersStop level (t.level .head) = true := by simp [entersStop, st, ne]
  have plant : w.dustPlant = t.dustPlant := by simp only [State.dustPlant, State.level, State.channel, dust, settings]
  have head : w.level .head = .stop := by rw [← st]; simp only [State.level, State.channel, dust, settings]
  have locked : (if Channel.head = .head ∧ entersStop level (t.level .head) = true then headStops t else t) = w :=
    (if_pos ⟨rfl, enters⟩).trans hw
  have choked : (if Channel.head = .head ∧ crossesWarn level (t.level .head) = true then settle (recomputeTravel true w) else w) = w := by
    split
    · exact choke_idle n
    · rfl
  unfold handOn
  dsimp only
  rw [locked, choked, formDustPlant_idle n, plant, if_pos enters]
  rw [beaconOn_of_head (s := { w with pour.reasons.dust := t.dustPlant }) head]
  exact if_neg ch

/-- The state that an entry of HEAD into STOP during a pour leaves, but for what it hands on (R154). -/
theorem headStops_pour (p : s.pourOrder = some o) (ph : s.pourHold = some h) (x : inSet s.exclusion h = false) :
    headStops s = ((raise .maskChanged (s.setHold h { s.hold h with lockout := some s.lockoutEnd })).orderYielded o).pourOver.walkedOn := by
  unfold headStops
  rw [ph]
  exact exclusionFormed_ends (s := s.setHold h { s.hold h with lockout := some s.lockoutEnd }) p ph
    (inSet_exclusion_locked s h _) x

theorem walkedOn_idle (e : s.sched.state.isPour = true) :
    s.walkedOn.dust = s.dust ∧ s.walkedOn.settings = s.settings ∧ s.walkedOn.sched.state.isPour = false := by
  rw [← walkOn_eq e]
  obtain ⟨sched, passes, ports, k⟩ := walkOn_scheduled s
  exact ⟨by rw [k], by rw [k], walkOn_not_pour s⟩

/-- The lockouts restarted under the spout (R155). -/
theorem headStops_idle (n : s.sched.state.isPour = false) :
    headStops s = { s with
      holds := tabulate fun k => { s.hold k with
        lockout := if s.overHold k = true ∧ (s.hold k).lockout ≠ none then some s.lockoutEnd else (s.hold k).lockout } } := by
  unfold headStops
  rw [pourHold_none n]
  unfold restartLockouts
  have each : ∀ k, (if s.overHold k && (s.hold k).lockout.isSome then { s.hold k with lockout := some s.lockoutEnd } else s.hold k) =
      { s.hold k with
        lockout := if s.overHold k = true ∧ (s.hold k).lockout ≠ none then some s.lockoutEnd else (s.hold k).lockout } := by
    intro k
    have cond : (s.overHold k && (s.hold k).lockout.isSome) = true ↔ s.overHold k = true ∧ (s.hold k).lockout ≠ none := by
      simp [Option.isSome_iff_ne_none]
    by_cases c : s.overHold k = true ∧ (s.hold k).lockout ≠ none
    · rw [if_pos (cond.mpr c), if_pos c]
    · rw [if_neg (mt cond.mp c), if_neg c]
  simp only [each]

/-- The two events that change HEAD, each as what it hands on from the state in which HEAD is written. -/
theorem exec_headEvent {i : Instr} (nr : s.inReset = false)
    (hi : (∃ v : BitVec 16, i = .dustSampleArrival .head v ∧
          t = { s with dust.channels.head := (s.channel .head).after (s.settings.channels.get .head) s.now v.toNat }) ∨
        (∃ d, (s.channel .head).staleAt = some d ∧ i = .dustStaleExpiry .head ∧
          t = { s with
            now := max s.now d
            dust.channels.head := { s.channel .head with
              state := .fault, up := 0, down := 0, staleAt := none, reason := some .stale } }))
    (ne : s.level .head ≠ .stop) (st : t.level .head = .stop) :
    exec i s = .next (handOn .head (s.channel .head).state (s.level .head) t) ∧
      (t.channel .head).state ≠ (s.channel .head).state ∧ ∃ now head, t = { s with now := now, dust.channels.head := head } := by
  have settings : t.settings = s.settings := by rcases hi with ⟨v, -, rfl⟩ | ⟨d, -, -, rfl⟩ <;> rfl
  have changed : (t.channel .head).state ≠ (s.channel .head).state := fun e =>
    ne (by rw [← st, State.level, State.level, settings, e])
  rcases hi with ⟨v, rfl, rfl⟩ | ⟨d, e, rfl, rfl⟩
  · refine ⟨(event_taken nr).trans ?_, changed, s.now, _, rfl⟩
    rw [← ChannelRec.sampled_eq]
    rfl
  · refine ⟨(event_taken nr).trans ?_, changed, _, _, rfl⟩
    simp only [channelStale, e]
    rfl

/-- A lockout's expiry (R155). -/
theorem lockoutExpired_eq {d : Time} (e : (s.hold h).lockout = some d) :
    lockoutExpired h s =
      ({ s with now := max s.now d }.setHold h { s.hold h with lockout := none }).maskFormed s.exclusion := by
  simp only [lockoutExpired, e]
  exact exclusionFormed_shrinks (s := (reachTime d s).setHold h { s.hold h with lockout := none })
    fun k => inSet_exclusion_unlocked (s := reachTime d s)

/-- Settles O56: HEAD's entry into STOP by the pour in progress, the expiry by the lockout, the horn. -/
theorem lockoutsPlacedAndExpired : Obligations.LockoutsPlacedAndExpired := by
  unfold Obligations.LockoutsPlacedAndExpired
  intro s nr
  refine ⟨fun i t hi ne st => ⟨t.dustPlant, dustPlant_iff t, fun o h p ph x => ⟨_, rfl, ?_⟩, fun n => ?_⟩,
    fun h d e => (event_taken nr).trans (congrArg _ (lockoutExpired_eq e)), fun h e => (event_taken nr).trans ?_,
    fun ht => request_answered ht rfl⟩
  · obtain ⟨run, changed, now, head, rfl⟩ := exec_headEvent nr hi ne st
    let t : State := { s with now := now, dust.channels.head := head }
    let v := ((raise .maskChanged (t.setHold h { s.hold h with lockout := some t.lockoutEnd })).orderYielded o).pourOver
    obtain ⟨dust, settings, idle⟩ := walkedOn_idle (s := v) (isPour_of_pourOrder (s := s) p)
    rw [run]
    exact congrArg Host.Outcome.next
      (handOn_headStops ne st changed (headStops_pour (s := t) p ph x) dust settings idle)
  · obtain ⟨run, changed, now, head, rfl⟩ := exec_headEvent nr hi ne st
    rw [run]
    exact congrArg Host.Outcome.next
      (handOn_headStops ne st changed (headStops_idle (s := { s with now := now, dust.channels.head := head }) n) rfl rfl n)
  · simp only [lockoutExpired, e]

end Sys2Proof.Machine
end

section
/-! The travel operations in the terms of Safety.lean (R84, R92 to R97): what each leads to, when what the completion of the travel leads
to is known. -/

set_option Elab.async false

namespace Sys2Proof.Machine

variable {s w : State}

/-! ### Moves (R84) -/

theorem State.setAxis_axis_self (s : State) (a : Axis) : s.setAxis a (s.axis a) = s := by cases a <;> rfl

theorem AxisRec.near_eq (tolerance : Nat) (r : AxisRec) (goal : Int) :
    r.near tolerance goal = r.position.any fun x => (x - goal).natAbs ≤ tolerance := by
  unfold AxisRec.near; split <;> next e => rw [e]; rfl

theorem AxisRec.grade_eq (fineZone : Nat) (k : MoveKind) (goal : Int) (r : AxisRec) :
    r.grade fineZone k goal =
      if k = .graded ∧ (r.position.any fun x => fineZone < (x - goal).natAbs) = true then .fast else .fine := by
  unfold AxisRec.grade
  cases k with
  | tracking => simp
  | graded => cases r.position <;> simp

theorem AxisRec.grade_ne_stop (fineZone : Nat) (k : MoveKind) (goal : Int) (r : AxisRec) : r.grade fineZone k goal ≠ .stop := by
  rw [AxisRec.grade_eq]; split <;> nofun

/-- A move gives the axis the record that R84 states. -/
theorem moveAxis_given (a : Axis) (k : MoveKind) (x : Int) (s : State) : moveAxis a k x s = s.setAxis a (s.given a k x) := by
  unfold moveAxis State.given
  by_cases c : (s.axis a).state = .fault ∨ s.inputs.eStop = true
  · rw [if_pos c, if_pos c, State.setAxis_axis_self]
  · rw [if_neg c, if_neg c]
    congr 1
    unfold AxisRec.move
    dsimp only
    rw [AxisRec.near_eq, ← AxisRec.grade_eq]
    split
    · rfl
    · simp only [AxisRec.grade_ne_stop, if_false]
      rfl

theorem given_position (s : State) (a : Axis) (k : MoveKind) (x : Int) : (s.given a k x).position = (s.axis a).position := by
  unfold State.given
  dsimp only
  split <;> rfl

/-! ### The phases of a travel (R92 to R96) -/

/-- A travel operation's answer acted on, where `k` is what a completed travel leads to. -/
def resolve (k : State → State) (r : State × Bool) : State := if r.2 then k r.1 else r.1

section
variable {ends : State → State → Prop} {k : State → State}

/-- LOWER goes on, or completes where the SPOUT is INPOS (R96). -/
theorem resolve_checkLower (k : State → State) (s : State) :
    (s.axes.spout.state ≠ .inpos → resolve k (checkLower s) = s) ∧
      (s.axes.spout.state = .inpos → resolve k (checkLower s) = k (travelOver s)) := by
  constructor <;> intro e <;> simp [checkLower, e, resolve]

theorem lowerBegins (hk : ∀ x, Travels w x → ends x (k (travelOver x))) : LowerBegins ends w (resolve k (beginLower w)) := by
  intro h ph
  let t : State := { w with
    spout.phase := .lower, spout.cond := some .inProgress, axes.spout := w.given .spout .graded (w.pourHeight h) }
  have moved : lowerMove { w with spout.phase := .lower, spout.cond := some .inProgress } = t := by
    have ph' : ({ w with spout.phase := .lower, spout.cond := some .inProgress } : State).pourHold = some h := ph
    unfold lowerMove
    rw [ph']
    exact moveAxis_given ..
  obtain ⟨goes, done⟩ := resolve_checkLower k t
  rw [beginLower, moved]
  exact ⟨goes, fun e => (done e).symm ▸ hk t ⟨_, _, rfl⟩⟩

theorem traverseGoes (hk : ∀ x, Travels w x → ends x (k (travelOver x))) :
    TraverseGoes ends w (resolve k (checkTraverse w)) := by
  refine ⟨fun e => ?_, fun g r => ?_⟩
  · rw [checkTraverse, if_neg (by rintro ⟨g, r⟩; exact e.elim (absurd g) (absurd r))]
    rfl
  · rw [checkTraverse, if_pos ⟨g, r⟩]
    exact lowerBegins hk

theorem traverseBegins (hk : ∀ x, Travels w x → ends x (k (travelOver x))) :
    TraverseBegins ends w (resolve k (beginTraverse w)) := by
  intro x hx y hy
  have moved : beginTraverse w = checkTraverse { w with
      spout.phase := .traverse
      spout.cond := some .inProgress
      axes.gantry := w.given .gantry .graded x
      axes.reach := w.given .reach .graded y } := by
    unfold beginTraverse
    simp only [hx, hy, moveTo, moveAxis_given]
    rfl
  rw [moved]
  exact traverseGoes fun v hv => hk v (.trans ⟨_, _, rfl⟩ hv)

theorem raiseMoves {z : Int} (k : State → State) (hz : w.spout.height = some z) (below : w.spoutAtOrAbove z = false) :
    RaiseMoves z w (resolve k (raiseMove w)) := by
  let t : State := { w with
    spout.cond := some .inProgress
    axes.spout := w.given .spout .graded (min (z + w.settings.tolerance) w.settings.upper.spout) }
  have moved : raiseMove w = checkRaise t := by
    unfold raiseMove
    rw [moveAxis_given]
    have target : w.raiseTarget = min (z + w.settings.tolerance) w.settings.upper.spout := by rw [State.raiseTarget, hz]; rfl
    rw [target]
    rfl
  have unclear : t.spoutClear = false := by
    have pos : t.axes.spout.position = w.axes.spout.position := given_position ..
    rw [State.spoutClear, show t.spout.height = some z from hz, ← below]
    simp only [State.spoutAtOrAbove, pos]
  rw [moved]
  refine ⟨fun e => ?_, fun e => ?_⟩
  · rw [checkRaise, if_neg e]; rfl
  · rw [checkRaise, if_pos e, unclear]; rfl

/-- The travel height that R92 writes. -/
theorem heightToSpot_eq {x : Int} (hx : w.spout.spotX = some x) : w.heightToSpot = w.travelHeight (w.moveFromGantry x) := by
  rw [State.heightToSpot, hx]

theorem raiseBegins (hk : ∀ x, Travels w x → ends x (k (travelOver x))) : RaiseBegins ends w (resolve k (beginRaise w)) := by
  intro x hx
  let z := w.travelHeight (w.moveFromGantry x)
  let t : State := { w with spout.phase := .raise, spout.cond := some .inProgress, spout.height := some z }
  have written : writeHeight { w with spout.phase := .raise, spout.cond := some .inProgress } = t := by
    rw [writeHeight, heightToSpot_eq (w := { w with spout.phase := .raise, spout.cond := some .inProgress }) hx]
    rfl
  have began : beginRaise w = if w.spoutAtOrAbove z then beginTraverse t else raiseMove t := by
    unfold beginRaise
    rw [written]
    rfl
  refine ⟨fun e => ?_, fun e => ?_⟩ <;> rw [began, e]
  · exact traverseBegins fun v hv => hk v (.trans ⟨_, _, rfl⟩ hv)
  · exact raiseMoves k (w := t) rfl e

end

end Sys2Proof.Machine
end

section
/-! Feeding, finalisation, activation and the completion of a travel in the terms of Safety.lean (R26, R27, R52 to R55, R62, R63, R72,
R75): what each operation leads to, followed through the orders that the continue rule hands on. -/

set_option Elab.async false

namespace Sys2Proof.Machine

variable {s w : State} {o : OrderId} {h : HoldId}

/-! ### The run line and feeding (R62, R63, R100) -/

/-- The run line set anew, by whether its conditions hold (R63, R64). -/
theorem setRunLine_lineSet (s : State) :
    setRunLine s = { s with pour := s.pour.lineSet s.runWanted s.inputs.beltConfirm s.now } := by
  unfold setRunLine Pour.lineSet
  split
  · split
    · rfl
    · split <;> rfl
  · rfl

/-- In POURING and DRAINING the run line is wanted exactly while the spout is over the active order's hold (R63). -/
theorem runWanted_feeding (st : s.sched.state = .pouring ∨ s.sched.state = .draining) (ph : s.pourHold = some h) :
    s.runWanted = s.overHold h := by
  unfold State.runWanted
  rw [ph]
  rcases st with st | st <;> rw [st] <;> rfl

theorem track_feeding (st : s.sched.state = .pouring ∨ s.sched.state = .draining) (ph : s.pourHold = some h) :
    track s = { s with axes.spout := s.given .spout .tracking (s.pourHeight h) } := by
  unfold track
  rw [if_pos st, ph]
  exact moveAxis_given ..

theorem pourOrder_enters {st : SchedState} (p : s.sched.state.isPour = true) (q : st.isPour = true) :
    ({ s with sched.state := st } : State).pourOrder = s.pourOrder := by
  simp only [State.pourOrder, p, q]

theorem pourHold_enters {st : SchedState} (p : s.sched.state.isPour = true) (q : st.isPour = true) :
    ({ s with sched.state := st } : State).pourHold = s.pourHold :=
  congrArg (Option.bind · fun o => (s.order o).hold) (pourOrder_enters p q)

theorem isPour_of_pourHold (ph : s.pourHold = some h) : s.sched.state.isPour = true := by
  cases e : s.pourOrder with
  | none => rw [State.pourHold, e] at ph; cases ph
  | some o => exact isPour_of_pourOrder e

/-- The run line on entry into POURING or DRAINING from a pour state (R63). -/
theorem setRunLine_entered {st : SchedState} (f : st = .pouring ∨ st = .draining) (ph : s.pourHold = some h) :
    setRunLine (enterState st s) =
      { s with sched.state := st, pour := s.pour.lineSet (s.overHold h) s.inputs.beltConfirm s.now } := by
  have p := isPour_of_pourHold ph
  have q : st.isPour = true := by rcases f with rfl | rfl <;> rfl
  rw [enterState_quiet (SchedState.resting_of_isPour q) (SchedState.resting_of_isPour p), setRunLine_lineSet,
    runWanted_feeding (s := { s with sched.state := st }) f ((pourHold_enters p q).trans ph)]
  rfl

/-- POURING or DRAINING entered from a pour state (R62, R63, R100). -/
theorem enterFeeding_fed {st : SchedState} (f : st = .pouring ∨ st = .draining) (ph : s.pourHold = some h) :
    enterFeeding st s = s.fed st h := by
  have p := isPour_of_pourHold ph
  have q : st.isPour = true := by rcases f with rfl | rfl <;> rfl
  unfold enterFeeding
  rw [setRunLine_entered f ph, track_feeding (h := h) f]
  · rfl
  · exact (pourHold_enters p q).trans ph

/-! ### Finalisation (R27, R54, R55, R75) -/

theorem finishOrder_eq (c : EndCause) (e : (s.order o).hold = some h) : finishOrder o c s = s.orderFinished o h c := by
  have d : dequeue o (s.setOrder o { s.order o with state := c.finished, lastEnd := some c.lastEnd }) =
      (s.setOrder o { s.order o with state := c.finished, lastEnd := some c.lastEnd }).setQueue h
        ((s.queue h).filter (· != o)) := by
    unfold dequeue
    rw [State.order_setOrder, if_pos rfl, e]
    rfl
  have n : (((s.setOrder o { s.order o with state := c.finished, lastEnd := some c.lastEnd }).setQueue h
      ((s.queue h).filter (· != o))).order o).notify = (s.order o).notify := by simp
  unfold finishOrder notifyEnd State.orderFinished
  rw [d, n]
  cases c <;> rfl

theorem orderFinished_sched (o : OrderId) (h : HoldId) (c : EndCause) (s : State) :
    (s.orderFinished o h c).sched = s.sched := by
  unfold State.orderFinished
  dsimp only
  split <;> rfl

theorem orderFinished_travel (o : OrderId) (h : HoldId) (c : EndCause) (s : State) :
    (endTravel (stopAxes s)).orderFinished o h c = endTravel (stopAxes (s.orderFinished o h c)) := by
  unfold State.orderFinished
  rw [show (endTravel (stopAxes s)).order o = s.order o from rfl]
  dsimp only
  split <;> rfl

/-- What a finalisation leaves before the scheduler goes on (R27, R60, R75). -/
theorem finished_pourOver (c : EndCause) (p : s.sched.state.isPour = true) (e : (s.order o).hold = some h) :
    commitAmendments (clearPour (finishOrder o c (endTravel (stopAxes s)))) = (s.orderFinished o h c).pourOver := by
  rw [finishOrder_eq (s := endTravel (stopAxes s)) c e, orderFinished_travel]
  exact commit_end (by rw [orderFinished_sched]; exact p)

/-- The continue rule names an order exactly where R55 does. -/
theorem continueWith_iff {r : Order} {c : EndCause} {n : OrderId} :
    w.continueWith r c h = some n ↔
      r.cont = true ∧ c ≠ .withdrawn ∧ (w.queue h).head? = some n ∧ (w.order n).state = .ready ∧ w.ineligible h n = none := by
  unfold State.continueWith
  by_cases k : r.cont = true ∧ c ≠ .withdrawn
  · rw [if_pos k]
    cases q : w.queue h with
    | nil => simp
    | cons m rest =>
      dsimp only
      split
      · next t =>
        refine ⟨fun x => ?_, fun x => by simpa using x.2.2.1⟩
        obtain rfl := Option.some.inj x
        exact ⟨k.1, k.2, rfl, t⟩
      · next t =>
        refine ⟨nofun, fun x => absurd ?_ t⟩
        obtain rfl : m = n := by simpa using x.2.2.1
        exact x.2.2.2
  · rw [if_neg k]
    exact ⟨nofun, fun x => absurd ⟨x.1, x.2.1⟩ k⟩

/-- A finalisation, where `act` activates the order that the continue rule hands on. -/
def finaliseBy (act : OrderId → State → State) (c : EndCause) (s : State) : State :=
  match finaliseStep c s with
  | (t, some n) => act n t
  | (t, none) => t

theorem finalise_eq (c : EndCause) (s : State) : finalise c s = finaliseBy activate c s := rfl

/-- An activation does not read which order was active before it. -/
theorem Activated.of_cleared {ends : State → State → Prop} {n : OrderId} {u : State}
    (a : Activated ends n { w with sched.active := none } u) : Activated ends n w u := a

theorem goOn_next {n : OrderId} (f : w.sched.stepFlag = false) :
    goOn w (some n) = ({ w with sched.active := none }, some n) := by
  simp [goOn, f]

theorem goOn_none (p : w.sched.state.isPour = true) : goOn w none = (w.walkedOn, none) := by
  simp [goOn, walkOn_eq p]

theorem goOn_stepped {next : Option OrderId} (p : w.sched.state.isPour = true) (f : w.sched.stepFlag = true) :
    goOn w next = (w.walkedOn, none) := by
  simp [goOn, f, walkOn_eq p]

theorem finalises {ends : State → State → Prop} {act : OrderId → State → State} (c : EndCause)
    (ha : ∀ n w, w.sched.state.resting = false → Activated ends n w (act n w)) :
    Finalises ends c s (finaliseBy act c s) := by
  intro o p h e
  let w : State := (s.orderFinished o h c).pourOver
  have sched : w.sched = s.sched := orderFinished_sched o h c s
  have isPour : w.sched.state.isPour = true := by rw [sched]; exact isPour_of_pourOrder p
  have step : finaliseStep c s = goOn w (w.continueWith (s.order o) c h) := by
    rw [finaliseStep_eq c p, finished_pourOver c (isPour_of_pourOrder p) e, e]
    rfl
  refine ⟨fun none_ => ?_, fun n continues => ?_⟩
  · have walks : goOn w (w.continueWith (s.order o) c h) = (w.walkedOn, none) := by
      cases f : w.sched.stepFlag with
      | true => exact goOn_stepped isPour f
      | false =>
        cases k : w.continueWith (s.order o) c h with
        | none => exact goOn_none isPour
        | some n => exact absurd ⟨f, continueWith_iff.mp k⟩ (none_ n)
    rw [finaliseBy, step, walks]
  · obtain ⟨f, rest⟩ := continues
    rw [finaliseBy, step, continueWith_iff.mpr rest, goOn_next f]
    exact .of_cleared (ha n _ (SchedState.resting_of_isPour isPour))

/-! ### Activation (R26, R52, R61, R90, R141) -/

/-- The state in which the pour of order `o` of hold `h` has begun, its spot written. -/
def State.activated (w : State) (o : OrderId) (h : HoldId) (al : Along) (ac : Across) : State :=
  State.setOrder { w with
      sched := { w.sched with state := .travelling, active := some o, progress := true }
      belt.lastHold := some h
      pour := ⟨w.pour.reasons, none, false, none, false, .off, none⟩
      spout := { w.spout with spotX := some (w.spotX h al), spotY := some (w.spotY h ac) } }
    o { w.order o with state := .active }

theorem pourBegun_eq (r : w.sched.state.resting = false) (o : OrderId) (h : HoldId) (al : Along) (ac : Across) :
    pourBegun o h w = { w.activated o h al ac with spout := w.spout } :=
  enterState_quiet rfl r

theorem writeSpot_pourBegun (r : w.sched.state.resting = false) (o : OrderId) (h : HoldId) (al : Along) (ac : Across) :
    writeSpot h (some (al, ac)) (pourBegun o h w) = w.activated o h al ac := by
  rw [pourBegun_eq r o h al ac]
  rfl

theorem orderFaulted_spout (o : OrderId) (k : FaultKind) (x : Spout) (s : State) :
    ({ s with spout := x } : State).orderFaulted o k = { s.orderFaulted o k with spout := x } := by
  unfold State.orderFaulted
  rw [show ({ s with spout := x } : State).order o = s.order o from rfl]
  dsimp only
  split
  · rfl
  · split <;> rfl

theorem orderFaulted_keeps_spout (o : OrderId) (k : FaultKind) (s : State) : (s.orderFaulted o k).spout = s.spout := by
  unfold State.orderFaulted
  dsimp only
  split
  · rfl
  · split <;> rfl

/-- The end of a pour clears the spout record but for the authority. -/
theorem pourOver_spout {x : Spout} (e : x.manual = s.spout.manual) : ({ s with spout := x } : State).pourOver = s.pourOver := by
  simp only [State.pourOver, e]
  rfl

theorem axisFault_iff (s : State) : s.axisFault = true ↔ ∃ a, (s.axis a).state = .fault := by
  simp only [State.axisFault, Bool.or_eq_true, beq_iff_eq]
  constructor
  · rintro ((e | e) | e)
    · exact ⟨.gantry, e⟩
    · exact ⟨.reach, e⟩
    · exact ⟨.spout, e⟩
  · rintro ⟨a, e⟩
    cases a with
    | gantry => exact .inl (.inl e)
    | reach => exact .inl (.inr e)
    | spout => exact .inr e

theorem ReasonSet.isEmpty_iff (r : ReasonSet) : r.isEmpty = true ↔ r = ⟨false, false, false, false⟩ := by
  obtain ⟨a, b, c, d⟩ := r
  simp [ReasonSet.isEmpty, and_assoc]

/-- PAUSED entered from TRAVELLING in RAISE (R68). -/
theorem enterPaused_raise (r : s.sched.state.resting = false) (e : s.spout.phase = .raise) :
    enterPaused .travelling s = { s with
      sched.state := .paused
      pour := ⟨s.pour.reasons, some .travelling, s.pour.reasons.manual, s.pour.endCause, false, .off, none⟩
      axes := s.axes.map (AxisRec.halt s.now)
      spout.cond := some .abandoned } := by
  unfold enterPaused
  rw [enterState_quiet rfl r]
  have abandoned : abandonTravel (stopAxes { s with sched.state := .paused }) =
      { stopAxes { s with sched.state := .paused } with spout.cond := some .abandoned } := by
    unfold abandonTravel
    rw [show (stopAxes { s with sched.state := .paused }).spout.phase = .raise from e]
  rw [abandoned, setRunLine_lineSet]
  rfl

/-- An activation, where `k` is what a travel that completes at once leads to. -/
theorem activated_step {ends : State → State → Prop} {k : State → State} (r : w.sched.state.resting = false)
    (hk : ∀ h al ac, (w.order o).hold = some h → ∀ x, Travels (w.activated o h al ac) x → ends x (k (travelOver x))) :
    Activated ends o w (resolve k (activateStep o w)) := by
  intro h e al ac spot
  have fault : (pourBegun o h w).axisFault = w.axisFault := by rw [pourBegun_eq r o h al ac]; rfl
  have order : (pourBegun o h w).pourOrder = some o := by rw [pourBegun_eq r o h al ac]; rfl
  have begun : ¬(pourBegun o h w).axisFault = true → activateStep o w =
      if w.pour.reasons.isEmpty then beginRaise (w.activated o h al ac)
      else (enterPaused .travelling { w.activated o h al ac with spout.phase := .raise }, false) := fun nf => by
    rw [activateStep_eq e, if_neg nf, spot, writeSpot_pourBegun r]
    rfl
  have whole : (∀ a, (w.axis a).state ≠ .fault) → ¬(pourBegun o h w).axisFault = true := fun nf f =>
    let ⟨a, ha⟩ := (axisFault_iff w).mp (fault ▸ f)
    nf a ha
  refine ⟨fun v f => ?_, fun nf reasons => ?_, fun nf reasons => ?_⟩
  · rw [activateStep_eq e, if_pos (fault.trans ((axisFault_iff w).mpr f))]
    have v' : (pourBegun o h w).vesselOpen = true := by rw [pourBegun_eq r o h al ac]; exact v
    refine (immediateEnd_fault_halt order v').trans ?_
    rw [pourBegun_eq r o h al ac, orderFaulted_spout, pourOver_spout (by rw [orderFaulted_keeps_spout]; rfl)]
    rfl
  · rw [begun (whole nf), if_neg (mt (ReasonSet.isEmpty_iff _).mp reasons)]
    exact enterPaused_raise rfl rfl
  · rw [begun (whole nf), if_pos ((ReasonSet.isEmpty_iff _).mpr reasons)]
    exact raiseBegins (w := w.activated o h al ac) (hk h al ac e)

/-- What an activation makes of a travel that completes at once, with `n` turns left. -/
def pourOnwards (n : Nat) (o : OrderId) (t : State) : State :=
  if (t.order o).isVisit then finaliseBy (runActivation n) .complete t else enterFeeding .pouring t

theorem runActivation_succ (n : Nat) (o : OrderId) (w : State) :
    runActivation (n + 1) o w = resolve (pourOnwards n o) (activateStep o w) := by
  rw [runActivation]
  cases e : activateStep o w with
  | mk t done =>
    cases done with
    | false => rfl
    | true =>
      simp only [resolve, pourOnwards, finaliseBy, if_true] <;> rfl

/-- A visit order is one with a target of 0. -/
theorem isVisit_iff (r : Order) : r.isVisit = true ↔ r.target = 0 := by simp [Order.isVisit]

/-- A travel of order `o` that completes with no end cause recorded, where its finalisation is understood (R26, R62). -/
theorem travelEndsIn_onwards {m n : Nat} {x : State} (po : x.pourOrder = some o) (none_ : x.pour.endCause = none)
    (fin : Finalises (TravelEndsIn m) .complete (travelOver x) (finaliseBy (runActivation n) .complete (travelOver x))) :
    TravelEndsIn (m + 1) x (pourOnwards n o (travelOver x)) := by
  intro o' po' h e
  obtain rfl := Option.some.inj (po.symm.trans po')
  have ph : (travelOver x).pourHold = some h := by rw [State.pourHold, show (travelOver x).pourOrder = some o from po]; exact e
  refine ⟨fun visit => ?_, fun pours => ⟨fun _ => ?_, fun c ec => ?_⟩⟩
  · rw [pourOnwards, if_pos ((isVisit_iff ((travelOver x).order o)).mpr visit)]
    exact fin
  · rw [pourOnwards, if_neg fun v => absurd ((isVisit_iff ((travelOver x).order o)).mp v) (Nat.pos_iff_ne_zero.mp pours)]
    exact enterFeeding_fed (.inl rfl) ph
  · rw [none_] at ec; cases ec

theorem activated_runActivation {m n : Nat} (le : m < n) (o : OrderId) (w : State) (r : w.sched.state.resting = false) :
    Activated (TravelEndsIn m) o w (runActivation n o w) := by
  induction n generalizing m o w with
  | zero => omega
  | succ n ih =>
    rw [runActivation_succ]
    refine activated_step r fun h al ac e x hx => ?_
    cases m with
    | zero => trivial
    | succ m =>
      obtain ⟨_, _, rfl⟩ := hx
      exact travelEndsIn_onwards rfl rfl (finalises .complete fun k v rest => ih (by omega) k v rest)

/-- An activation, its travel followed through all the orders of the pool (R52). -/
theorem activated_activate {m : Nat} (le : m ≤ 64) (o : OrderId) (w : State) (r : w.sched.state.resting = false) :
    Activated (TravelEndsIn m) o w (activate o w) :=
  activated_runActivation (by omega) o w r

theorem finalises_finalise {m : Nat} (le : m ≤ 64) (c : EndCause) (s : State) :
    Finalises (TravelEndsIn m) c s (finalise c s) :=
  finalises c fun n w r => activated_activate le n w r

/-! ### The completion of a travel and the orderly ends (R62, R72, R75) -/

theorem finalisationTest_idle (e : s.isDraining = false ∨ s.beltClear = false) : finalisationTest s = s := by
  unfold finalisationTest
  rcases e with e | e <;> simp [e]

theorem finalisationTest_due {c : EndCause} (d : s.isDraining = true) (b : s.beltClear = true) (ec : s.pour.endCause = some c) :
    finalisationTest s = finalise c s := by
  simp [finalisationTest, d, b, ec]

/-- The finalisation test (R75). -/
theorem finalisationTested (s : State) : FinalisationTested s (finalisationTest s) :=
  ⟨fun d b _ ec => (finalisationTest_due d b ec).symm ▸ finalises_finalise (le_refl 64) _ s, finalisationTest_idle⟩

theorem fed_isDraining (s : State) (h : HoldId) : (s.fed .draining h).isDraining = true := rfl

theorem lineSet_endCause (r : Pour) (inside confirm : Bool) (now : Time) : (r.lineSet inside confirm now).endCause = r.endCause := by
  unfold Pour.lineSet
  split
  · split
    · rfl
    · split <;> rfl
  · rfl

/-- A travel's completion (R62). -/
theorem travelEnds (x : State) : TravelEnds x (travelComplete (travelOver x)) := by
  intro o po h e
  have po' : (travelOver x).pourOrder = some o := po
  have ph : (travelOver x).pourHold = some h := by rw [State.pourHold, po']; exact e
  unfold travelComplete
  rw [po']
  refine ⟨fun visit => ?_, fun pours => ?_⟩
  · dsimp only
    rw [if_pos ((isVisit_iff ((travelOver x).order o)).mpr visit)]
    exact finalises_finalise (by decide) .complete _
  · dsimp only
    rw [if_neg fun v => absurd ((isVisit_iff ((travelOver x).order o)).mp v) (Nat.pos_iff_ne_zero.mp pours)]
    refine ⟨fun none_ => ?_, fun c ec => ?_⟩
    · rw [if_pos (by rw [show (travelOver x).pour.endCause = none from none_]; rfl)]
      exact enterFeeding_fed (.inl rfl) ph
    · rw [if_neg (by rw [show (travelOver x).pour.endCause = some c from ec]; nofun), enterFeeding_fed (.inr rfl) ph]
      refine ⟨fun nb => finalisationTest_idle (.inr nb), fun b => ?_⟩
      rw [finalisationTest_due (s := (travelOver x).fed .draining h) (fed_isDraining _ h) b ((lineSet_endCause ..).trans ec)]
      exact finalises_finalise (by decide) c _

theorem combineCause_eq (r : Option EndCause) (c : EndCause) :
    combineCause r c = if c = .withdrawn then c else r.getD c := by
  cases c <;> cases r <;> rfl

theorem mayFinaliseAtOnce_iff (p : s.pourOrder = some o) :
    s.mayFinaliseAtOnce = true ↔ s.beltClear = true ∨ (s.order o).target = 0 := by
  simp [State.mayFinaliseAtOnce, p, Order.isVisit]

/-- An orderly end asked of the pour in progress (R72). -/
theorem orderlyEnds (c : EndCause) (s : State) : OrderlyEnds c s (orderlyEnd c s) := by
  intro o p h e
  have ph : s.pourHold = some h := by rw [State.pourHold, p]; exact e
  have cause := combineCause_eq s.pour.endCause c
  have once := mayFinaliseAtOnce_iff p
  dsimp only
  rw [← cause]
  unfold orderlyEnd
  dsimp only
  have atOnce : ∀ {t : State}, (s.beltClear = true ∨ (s.order o).target = 0 →
        Finalises TravelEnds (combineCause s.pour.endCause c) s
          (if s.mayFinaliseAtOnce then finalise (combineCause s.pour.endCause c) s else t)) ∧
      (¬(s.beltClear = true ∨ (s.order o).target = 0) →
        (if s.mayFinaliseAtOnce then finalise (combineCause s.pour.endCause c) s else t) = t) :=
    ⟨fun y => (if_pos (once.mpr y)).symm ▸ finalises_finalise (le_refl 64) _ s, fun n => if_neg (mt once.mp n)⟩
  refine ⟨fun st => ?_, fun st => ?_, fun st ret => ?_, fun st => ?_⟩
  · rw [st]
    dsimp only
    rw [setRunLine_entered (s := { s with pour.endCause := some (combineCause s.pour.endCause c) }) (.inr rfl) ph]
    exact finalisationTested _
  · rcases st with st | ⟨st, ret⟩
    · rw [st]; exact atOnce
    · rw [st, ret]; exact atOnce
  · rw [st, ret]; exact atOnce
  · rcases st with st | ⟨st, ret⟩
    · rw [st]
    · rw [st, ret]

end Sys2Proof.Machine
end

section
/-! The examination (R48) and the arrivals that carry a travel on (R83, R85, R93 to R96). -/

set_option Elab.async false

namespace Sys2Proof.Machine

variable {s w : State}

/-! ### The examination (R48) -/

/-- The cursor moved on to a position still in the round (R45). -/
theorem moveOn_next {n : PassId} {k : Fin 8} (e : s.sched.state = .seeking) (next : s.nextPosition = some (n, k)) :
    moveOn s = { s with sched.pass := n, sched.pos := k } := by
  rw [moveOn_eq e, if_neg (by rw [next]; nofun), State.cursorOn, next]

theorem passOver_next {n : PassId} {k : Fin 8} (h : HoldId) (c : HeldCause) (e : s.sched.state = .seeking)
    (next : s.nextPosition = some (n, k)) :
    passOver h c s = { s with sched.pass := n, sched.pos := k, sched.held := s.sched.held.set h (some c) } :=
  moveOn_next (s := { s with sched.held := s.sched.held.set h (some c) }) e next

theorem examine_nothing (e : s.sched.state = .seeking)
    (nothing : ∀ h, (s.chain s.sched.pass)[s.sched.pos.val]? = some h → s.queue h = []) : examine s = moveOn s := by
  rw [examine, if_neg (not_not.mpr e), State.holdAtCursor]
  cases c : (s.chain s.sched.pass)[s.sched.pos.val]? with
  | none => rfl
  | some h => simp only [nothing h c]

/-- The examination of a position whose hold has orders waiting. -/
theorem examine_top {h : HoldId} {o : OrderId} {rest : List OrderId} (e : s.sched.state = .seeking)
    (c : (s.chain s.sched.pass)[s.sched.pos.val]? = some h) (q : s.queue h = o :: rest) :
    examine s =
      if (s.order o).state = .ready then (s.ineligible h o).elim (activate o s) (passOver h · s) else passOver h .blocked s := by
  rw [examine, if_neg (not_not.mpr e), State.holdAtCursor, c]
  simp only [q]
  split
  · cases s.ineligible h o <;> rfl
  · rfl

/-- Settles O38: by what the position at the cursor holds. -/
theorem positionsExamined : Obligations.PositionsExamined := by
  unfold Obligations.PositionsExamined
  intro s nr e
  have run : ∀ {t : State}, examine s = t → exec .examination s = .next t := fun k =>
    (event_taken nr).trans (congrArg _ k)
  refine ⟨fun n k next => ⟨fun nothing => run ?_, fun h o rest c q => ⟨fun st => run ?_, fun why st f => run ?_⟩⟩,
    fun h o rest al ac c q st hold spot f => ⟨activate o s, ?_, activate_kept o s, run ?_⟩⟩
  · rw [examine_nothing e nothing, moveOn_next e next]
  · rw [examine_top e c q, if_neg (by rw [st]; nofun), passOver_next h _ e next]
  · rw [examine_top e c q, if_pos st, f]
    exact passOver_next h why e next
  · exact activated_activate (le_refl 64) o s (by rw [e]; rfl)
  · rw [examine_top e c q, if_pos st, f]
    rfl

/-! ### An axis after a position arrival (R83, R85) -/

/-- What a moving axis makes of a position (R85). -/
theorem AxisRec.advance_moving {r : AxisRec} {goal : Int} {k : MoveKind} (v : Settings) (now : Time) (x : Int)
    (st : r.state = .moving) (tg : r.target = some goal) (kd : r.kind = some k) :
    AxisRec.advance now v.tolerance v.fineZone { r with position := some x } = r.arrivedAt v now x := by
  unfold AxisRec.advance AxisRec.arrivedAt
  simp only [st, tg, kd]
  by_cases near : (x - goal).natAbs ≤ v.tolerance
  · simp only [AxisRec.near, near, decide_true, if_true, AxisRec.arrive, AxisRec.command, Config.classTimeout,
      eq_comm]
  · simp only [AxisRec.near, near, decide_false, Bool.false_eq_true, if_false]
    cases k with
    | tracking => rfl
    | graded =>
      simp only [AxisRec.grade, AxisRec.command, reduceCtorEq, false_or]
      split <;> simp only [Config.classTimeout, eq_comm]

/-- An axis record after a position arrival that faults nothing (R83, R85). -/
theorem AxisRec.advance_eq (r : AxisRec) (v : Settings) (now : Time) (x : Int) :
    AxisRec.advance now v.tolerance v.fineZone { r with position := some x } = r.arrivedAt v now x := by
  cases st : r.state with
  | moving =>
    cases tg : r.target with
    | none => simp only [AxisRec.advance, AxisRec.arrivedAt, st, tg]
    | some goal =>
      cases kd : r.kind with
      | none => simp only [AxisRec.advance, AxisRec.arrivedAt, st, tg, kd]
      | some k => simpa only [st, tg, kd] using AxisRec.advance_moving v now x st tg kd
  | _ => simp only [AxisRec.advance, AxisRec.arrivedAt, st]

/-- A position arrival that faults nothing (R83, R85). -/
theorem positionArrived_within {a : Axis} {x : Int}
    (h : (s.axis a).state = .fault ∨ (s.settings.lower.get a - 200 ≤ x ∧ x ≤ s.settings.upper.get a + 200)) :
    positionArrived a x s = afterArrival a (s.setAxis a ((s.axis a).arrivedAt s.settings s.now x)) := by
  have within_ : ¬((s.axis a).state ≠ .fault ∧ s.outOfRange a x = true) := by
    rintro ⟨nf, out⟩
    rcases h with f | ⟨l, u⟩
    · exact nf f
    · simp only [State.outOfRange, Bool.or_eq_true, decide_eq_true_eq] at out
      omega
  unfold positionArrived
  dsimp only
  rw [if_neg within_, State.setAxis_setAxis, State.axis_setAxis, if_pos rfl, AxisRec.advance_eq]

/-! ### The travel after an arrival (R93 to R96) -/

theorem heightChecked (w : State) : HeightChecked w (settle (checkHeight w)) := by
  intro x hx
  let z := w.travelHeight (w.moveFromGantry x)
  let t : State := { w with spout.height := some z }
  have written : writeHeight w = t := by rw [writeHeight, heightToSpot_eq hx]
  have checked : checkHeight w = if w.spoutAtOrAbove z then (t, false) else beginRaise (stopTraverse t) := by
    unfold checkHeight
    rw [written]
    rfl
  refine ⟨fun e => ?_, fun e => ?_⟩ <;> rw [checked, e]
  · rfl
  · exact raiseBegins (w := stopTraverse t) fun v _ => travelEnds v

theorem raiseRetaken (w : State) : RaiseRetaken w (settle (retakeRaise w)) := by
  intro x hx
  let z := w.travelHeight (w.moveFromGantry x)
  let t : State := { w with spout.height := some z }
  have written : writeHeight w = t := by rw [writeHeight, heightToSpot_eq hx]
  have target : t.raiseTarget = min (z + w.settings.tolerance) w.settings.upper.spout := rfl
  have again : w.spoutAtOrAbove z = false →
      retakeRaise w = if some t.raiseTarget = w.axes.spout.target then (t, false) else raiseMove t := fun e => by
    unfold retakeRaise
    rw [written]
    exact if_neg (Bool.eq_false_iff.mp e)
  refine ⟨fun e => ?_, fun e => ⟨fun same => ?_, fun differ => ?_⟩⟩
  · have begun : retakeRaise w = beginTraverse t := by
      unfold retakeRaise
      rw [written]
      exact if_pos e
    rw [begun]
    exact traverseBegins fun v _ => travelEnds v
  · rw [again e, if_pos (by rw [target, same])]
    rfl
  · rw [again e, if_neg (by rw [target]; exact Ne.symm differ)]
    exact raiseMoves travelComplete (w := t) rfl e

/-- A SPOUT arrival in RAISE (R93). -/
theorem checkRaise_arrived (w : State) :
    (w.axes.spout.state ≠ .inpos → settle (checkRaise w) = w) ∧
      (w.axes.spout.state = .inpos → ∀ z, w.spout.height = some z →
        (w.spoutAtOrAbove z = true → TraverseBegins TravelEnds w (settle (checkRaise w))) ∧
          (w.spoutAtOrAbove z = false → settle (checkRaise w) = { w with spout.cond := some .clearanceWait })) := by
  refine ⟨fun e => ?_, fun e z hz => ?_⟩
  · rw [checkRaise, if_neg e]; rfl
  · have clear : w.spoutClear = w.spoutAtOrAbove z := by rw [State.spoutClear, hz]
    rw [checkRaise, if_pos e, clear]
    refine ⟨fun k => ?_, fun k => ?_⟩ <;> rw [k]
    · exact traverseBegins fun v _ => travelEnds v
    · rfl

/-- A SPOUT arrival carries the travel in hand on (R93, R95, R96). -/
theorem spoutArrival (w : State) : SpoutArrived w (settle (spoutArrived w)) := by
  refine ⟨fun c => ?_, fun p c => ?_, fun p c => ?_, fun p c => ?_, fun p c => ?_⟩ <;> unfold spoutArrived
  · rcases c with c | c <;> rw [c] <;> cases w.spout.phase <;> rfl
  all_goals rw [p, c]
  · exact checkRaise_arrived w
  · exact raiseRetaken w
  · exact heightChecked w
  · obtain ⟨goes, done⟩ := resolve_checkLower travelComplete w
    refine ⟨goes, fun e => ?_⟩
    change TravelEnds w (resolve travelComplete (checkLower w))
    rw [done e]
    exact travelEnds w

theorem traverseArrived_idle (e : w.spout.phase ≠ .traverse ∨ w.spout.cond ≠ some .inProgress) :
    traverseArrived w = (w, false) := by
  unfold traverseArrived
  split
  · next p c => rcases e with e | e <;> contradiction
  · rfl

theorem traverseArrived_going (p : w.spout.phase = .traverse) (c : w.spout.cond = some .inProgress) :
    traverseArrived w = checkTraverse w := by
  unfold traverseArrived
  rw [p, c]

theorem runWanted_iff (s : State) :
    s.runWanted = true ↔ (s.sched.state = .pouring ∨ s.sched.state = .draining) ∧ ∃ h, s.pourHold = some h ∧ s.overHold h = true := by
  unfold State.runWanted
  cases s.pourHold <;> simp

/-- Settles O47: the SPOUT's arrivals, and those of GANTRY and REACH. -/
theorem travelsAdvance : Obligations.TravelsAdvance := by
  unfold Obligations.TravelsAdvance
  intro s t a v nr h e
  have kept : Kept t (afterArrival a t) := by
    cases a with
    | spout => exact settle_kept _ (spoutArrived_kept t)
    | gantry | reach => exact (setRunLine_kept t).trans (settle_kept _ (traverseArrived_kept _))
  have run : exec (.positionArrival a v) s = .next (afterArrival a t) :=
    (event_taken nr).trans (congrArg _ ((positionArrived_within h).trans (by rw [e])))
  refine ⟨fun sp => ?_, fun ns => ?_⟩
  · subst sp
    exact ⟨_, spoutArrival t, kept, run⟩
  · have after : afterArrival a t = settle (traverseArrived (setRunLine t)) := by
      cases a with
      | spout => exact absurd rfl ns
      | gantry | reach => rfl
    have sched : t.sched = s.sched := by rw [e]; rfl
    have hold : t.pourHold = s.pourHold :=
      pourHold_congr (by rw [sched]) (by rw [sched]) fun o => by rw [e]; rfl
    have wanted : t.runWanted = true ↔
        (s.sched.state = .pouring ∨ s.sched.state = .draining) ∧ ∃ h, s.pourHold = some h ∧ t.overHold h = true := by
      rw [runWanted_iff, sched, hold]
    have line : setRunLine t = { t with pour := t.pour.lineSet t.runWanted s.inputs.beltConfirm s.now } := by
      rw [setRunLine_lineSet, show t.inputs = s.inputs by rw [e]; rfl, show t.now = s.now by rw [e]; rfl]
    have spout : (setRunLine t).spout = s.spout := by rw [line, e]; rfl
    refine ⟨setRunLine t, _, t.runWanted, wanted, line, fun p c => ?_, fun idle => ?_,
      settle_kept _ (traverseArrived_kept _), after ▸ run⟩
    · rw [traverseArrived_going (by rw [spout]; exact p) (by rw [spout]; exact c)]
      exact traverseGoes fun v _ => travelEnds v
    · rw [traverseArrived_idle (by rw [spout]; exact idle)]
      rfl

end Sys2Proof.Machine
end

section
/-! Orderly ends asked for by a request (R32, R72, R74). The owning block works on the idled port, so what it makes of the state is a
relation between states in which the port is idled; no relation of chapters 3 to 5 reads a port's receive condition, so that it also
holds of the states in which the condition stands. -/

set_option Elab.async false

namespace Sys2Proof.Machine

variable {s w u : State} {p : Port} {x : Receive} {o : OrderId} {h : HoldId}

/-! ### The relations beside a receive condition -/

theorem orderFinished_setRx (o : OrderId) (h : HoldId) (c : EndCause) (p : Port) (x : Receive) (s : State) :
    (s.setRx p x).orderFinished o h c = (s.orderFinished o h c).setRx p x := by
  unfold State.orderFinished
  rw [show (s.setRx p x).order o = s.order o from rfl]
  dsimp only
  split
  · exact raise_setRx_of rfl
  · rfl

theorem faultRested_setRx (o : OrderId) (k : FaultKind) (st : SchedState) (hs : HaltSet) (p : Port) (x : Receive) (s : State) :
    ((s.setRx p x).orderFaulted o k).pourOver.rested st hs = ((s.orderFaulted o k).pourOver.rested st hs).setRx p x := by
  rw [orderFaulted_setRx]
  exact rested_setRx st hs p x (s.orderFaulted o k).pourOver

theorem RaiseMoves.setRx {z : Int} (r : RaiseMoves z w u) : RaiseMoves z (w.setRx p x) (u.setRx p x) :=
  ⟨fun e => congrArg (State.setRx p x) (r.1 e), fun e => congrArg (State.setRx p x) (r.2 e)⟩

section
variable {ends : State → State → Prop} (he : ∀ w u, ends w u → ends (w.setRx p x) (u.setRx p x))
include he

theorem LowerBegins.setRx (r : LowerBegins ends w u) : LowerBegins ends (w.setRx p x) (u.setRx p x) := fun h ph =>
  ⟨fun e => congrArg (State.setRx p x) ((r h ph).1 e), fun e => he _ _ ((r h ph).2 e)⟩

theorem TraverseGoes.setRx (r : TraverseGoes ends w u) : TraverseGoes ends (w.setRx p x) (u.setRx p x) :=
  ⟨fun e => congrArg (State.setRx p x) (r.1 e), fun g e => (r.2 g e).setRx he⟩

theorem TraverseBegins.setRx (r : TraverseBegins ends w u) : TraverseBegins ends (w.setRx p x) (u.setRx p x) :=
  fun i hi j hj => (r i hi j hj).setRx he

theorem RaiseBegins.setRx (r : RaiseBegins ends w u) : RaiseBegins ends (w.setRx p x) (u.setRx p x) := fun i hi =>
  ⟨fun e => ((r i hi).1 e).setRx he, fun e => ((r i hi).2 e).setRx⟩

theorem Activated.setRx (r : Activated ends o w u) : Activated ends o (w.setRx p x) (u.setRx p x) := by
  intro h e al ac spot
  obtain ⟨faults, pauses, raises⟩ := r h e al ac spot
  refine ⟨fun v f => ?_, fun nf reasons => congrArg (State.setRx p x) (pauses nf reasons),
    fun nf reasons => (raises nf reasons).setRx he⟩
  rw [faults v f]
  exact (faultRested_setRx o .axis .halted _ p x (w.activated o h al ac)).symm

theorem Finalises.setRx {c : EndCause} (r : Finalises ends c w u) : Finalises ends c (w.setRx p x) (u.setRx p x) := by
  intro o po h e
  obtain ⟨walks, continues⟩ := r o po h e
  dsimp only
  rw [orderFinished_setRx]
  refine ⟨fun none_ => ?_, fun n y => (continues n y).setRx he⟩
  rw [walks none_]
  exact (walkedOn_setRx p x (w.orderFinished o h c).pourOver).symm

end

theorem TravelEndsIn.setRx {n : Nat} (r : TravelEndsIn n w u) : TravelEndsIn n (w.setRx p x) (u.setRx p x) := by
  induction n generalizing w u with
  | zero => trivial
  | succ n ih =>
    have he : ∀ w u, TravelEndsIn n w u → TravelEndsIn n (w.setRx p x) (u.setRx p x) := fun _ _ => ih
    intro o po h e
    obtain ⟨visits, pours⟩ := r o po h e
    refine ⟨fun v => (visits v).setRx he, fun t => ⟨fun ec => congrArg (State.setRx p x) ((pours t).1 ec), fun c ec => ?_⟩⟩
    obtain ⟨drains, finalises⟩ := (pours t).2 c ec
    exact ⟨fun nb => congrArg (State.setRx p x) (drains nb), fun b => (finalises b).setRx he⟩

theorem travelEnds_setRx (p : Port) (x : Receive) (w u : State) (r : TravelEnds w u) : TravelEnds (w.setRx p x) (u.setRx p x) :=
  TravelEndsIn.setRx r

theorem FinalisationTested.setRx (r : FinalisationTested w u) : FinalisationTested (w.setRx p x) (u.setRx p x) :=
  ⟨fun d b c ec => (r.1 d b c ec).setRx (travelEnds_setRx p x), fun e => congrArg (State.setRx p x) (r.2 e)⟩

theorem OrderlyEnds.setRx {c : EndCause} (r : OrderlyEnds c w u) : OrderlyEnds c (w.setRx p x) (u.setRx p x) := by
  have he := travelEnds_setRx p x
  intro o po h e
  obtain ⟨pouring, way, paused, drains⟩ := r o po h e
  exact ⟨fun st => (pouring st).setRx,
    fun st => ⟨fun a => ((way st).1 a).setRx he, fun a => congrArg (State.setRx p x) ((way st).2 a)⟩,
    fun st ret => ⟨fun a => ((paused st ret).1 a).setRx he, fun a => congrArg (State.setRx p x) ((paused st ret).2 a)⟩,
    fun st => congrArg (State.setRx p x) (drains st)⟩

/-! ### An orderly end that a request asks for -/

theorem setRx_idlePort (p : Port) (s : State) : (idlePort p s).setRx p (s.port p).rx = s := by cases p <;> rfl

/-- The state after an orderly end that a request on a port asks for, its reply not yet given. -/
def State.orderlyEnded (s : State) (p : Port) (c : EndCause) : State := restoreRx p s (orderlyEnd c (idlePort p s))

theorem orderlyEnded_ends (s : State) (p : Port) (c : EndCause) : OrderlyEnds c s (s.orderlyEnded p c) := by
  have r := (orderlyEnds c (idlePort p s)).setRx (p := p) (x := (s.port p).rx)
  rw [setRx_idlePort] at r
  exact r

theorem orderlyEnded_kept (s : State) (p : Port) (c : EndCause) : Kept s (s.orderlyEnded p c) :=
  (reply_of_kept (p := p) 0 .done [] (by decide) (orderlyEnd_kept c (idlePort p s))).1

/-- A request whose owner asks for an orderly end. -/
theorem request_orderlyEnd {i : Instr} {owner : State → Taken} {c : EndCause} {items : List Byte} (ht : s.takes p)
    (e : owner (idlePort p s) = .done (orderlyEnd c (idlePort p s)) items) (wf : i.wellFormed = true := by rfl)
    (a : permitted p i.requestCode = true := by rfl) (l : i.requestCode.toNat < 0x80 := by exact of_decide_eq_true rfl) :
    request i p owner s = .next ((s.orderlyEnded p c).answered p i.requestCode .done items) := by
  rw [request_taken ht wf a, e]
  exact congrArg Host.Outcome.next (reply_of_kept i.requestCode .done items l (orderlyEnd_kept c (idlePort p s))).2

/-! ### TOP OFF (R74) -/

theorem mayTopOff_iff (s : State) :
    s.mayTopOff = true ↔ s.vesselOpen = true ∧
      (s.sched.state = .travelling ∨ s.sched.state = .pouring ∨
        (s.sched.state = .paused ∧ s.pour.returnState ≠ some .draining)) ∧
      ∃ o, s.pourOrder = some o ∧ (s.order o).target ≠ 0 := by
  simp only [State.mayTopOff, Bool.and_eq_true, Bool.or_eq_true, beq_iff_eq, bne_iff_ne, ne_eq, Option.any_eq_true,
    Bool.not_eq_true', Order.isVisit, beq_eq_false_iff_ne, and_assoc, or_assoc]

/-- Settles O41: by the conditions of TOP OFF. -/
theorem poursToppedOff : Obligations.PoursToppedOff := by
  unfold Obligations.PoursToppedOff
  intro s ht
  refine ⟨fun o v po target nd nr => ⟨_, orderlyEnded_ends s .cab .topped, orderlyEnded_kept s .cab .topped, ?_⟩, fun h => ?_⟩
  · have state : s.sched.state = .travelling ∨ s.sched.state = .pouring ∨
        (s.sched.state = .paused ∧ s.pour.returnState ≠ some .draining) := by
      have isPour := isPour_of_pourOrder po
      cases st : s.sched.state with
      | travelling => exact .inl rfl
      | pouring => exact .inr (.inl rfl)
      | paused => exact .inr (.inr ⟨rfl, nr⟩)
      | draining => exact absurd st nd
      | _ => rw [st] at isPour; cases isPour
    exact request_orderlyEnd ht
      (if_pos ((mayTopOff_iff (idlePort .cab s)).mpr ⟨v, state, o, po, Nat.pos_iff_ne_zero.mp target⟩))
  · refine request_refused ht (if_neg fun may => ?_)
    obtain ⟨v, state, o, po, target⟩ := (mayTopOff_iff (idlePort .cab s)).mp may
    rcases h with h | h | h | ⟨h, ret⟩ | ⟨k, pk, hk⟩
    · exact absurd (h.symm.trans v) nofun
    · have e : s.sched.state = .draining := h
      rcases state with st | st | ⟨st, -⟩ <;> exact absurd (e.symm.trans st) nofun
    · exact absurd (h.symm.trans (isPour_of_pourOrder (s := s) po)) nofun
    · rcases state with st | st | ⟨-, r⟩
      · exact absurd (h.symm.trans st) nofun
      · exact absurd (h.symm.trans st) nofun
      · exact r ret
    · obtain rfl := Option.some.inj (pk.symm.trans po)
      exact target hk

/-! ### WITHDRAW ORDER (R32) -/

theorem finishOrder_state (o : OrderId) (c : EndCause) (s : State) : ((finishOrder o c s).order o).state = c.finished := by
  obtain ⟨_, _, _, e⟩ := finishOrder_ends o c s
  rw [e]
  change ((State.setOrder _ o _).order o).state = _
  rw [State.order_setOrder, if_pos rfl]

/-- A withdrawn order is WITHDRAWN whatever the scheduler goes on to, the continue rule handing on to none (R55). -/
theorem finalise_withdrawn (po : s.pourOrder = some o) : ((finalise .withdrawn s).order o).state = .withdrawn := by
  let t := commitAmendments (clearPour (finishOrder o .withdrawn (endTravel (stopAxes s))))
  have none_ : (s.order o).hold.bind (t.continueWith (s.order o) .withdrawn) = none := by
    cases (s.order o).hold with
    | none => rfl
    | some h => exact if_neg fun k => k.2 rfl
  have walks : finalise .withdrawn s = walkOn t := by
    have step : finaliseStep .withdrawn s = goOn t none := by rw [finaliseStep_eq .withdrawn po]; exact congrArg (goOn t) none_
    have goes : goOn t none = (walkOn t, none) := by unfold goOn; split <;> rfl
    rw [finalise_eq, finaliseBy, step, goes]
  have orders : (walkOn t).orders = (finishOrder o .withdrawn (endTravel (stopAxes s))).orders :=
    (walkOn_scheduled t).orders.trans (commitAmendments_orders _)
  rw [walks, State.order_of_orders orders, finishOrder_state]
  rfl

theorem finalisationTest_withdrawn (po : s.pourOrder = some o) (a : (s.order o).state = .active)
    (ec : s.pour.endCause = some .withdrawn) :
    ((finalisationTest s).order o).state = .active ∨ ((finalisationTest s).order o).state = .withdrawn := by
  unfold finalisationTest
  split
  · rw [ec]; exact .inr (finalise_withdrawn po)
  · exact .inl a

/-- The order of a pour asked to end with WITHDRAWN is ACTIVE still, or WITHDRAWN. -/
theorem orderlyEnd_withdrawn (po : s.pourOrder = some o) (a : (s.order o).state = .active) :
    ((orderlyEnd .withdrawn s).order o).state = .active ∨ ((orderlyEnd .withdrawn s).order o).state = .withdrawn := by
  have isPour := isPour_of_pourOrder po
  have atOnce : ∀ {t : State}, t.orders = s.orders →
      ((if s.mayFinaliseAtOnce then finalise .withdrawn s else t).order o).state = .active ∨
        ((if s.mayFinaliseAtOnce then finalise .withdrawn s else t).order o).state = .withdrawn := fun e => by
    split
    · exact .inr (finalise_withdrawn po)
    · exact .inl ((congrArg Order.state (State.order_of_orders e o)).trans a)
  unfold orderlyEnd
  dsimp only [combineCause]
  split
  · rw [enterState_quiet (s := { s with pour.endCause := some .withdrawn }) rfl (SchedState.resting_of_isPour isPour),
      setRunLine_lineSet]
    exact finalisationTest_withdrawn ((pourOrder_enters isPour rfl).trans po) a (lineSet_endCause ..)
  · exact atOnce rfl
  · exact atOnce rfl
  · exact atOnce rfl
  all_goals exact .inl a

theorem woken_order (s : State) (o : OrderId) : s.woken.order o = s.order o := by
  rw [← wake_eq]
  exact State.order_of_orders (wake_scheduled s).orders o

/-- A READY or STALLED order withdrawn at once, a wake event (R32). -/
theorem takeWithdrawOrder_waiting {b : Byte} (hb : b.toNat = o.val + 1) (v : s.vesselOpen = true)
    (st : (s.order o).state = .ready ∨ (s.order o).state = .stalled) :
    takeWithdrawOrder b s = .done (finishOrder o .withdrawn s).woken [6] := by
  have place : ((finishOrder o .withdrawn s).woken.order o).state = .withdrawn := by
    rw [woken_order, finishOrder_state]; rfl
  rw [takeWithdrawOrder, onOrder_eq hb v (by rcases st with e | e <;> rw [e] <;> nofun)]
  rcases st with e | e <;> simp only [e, wake_eq, place] <;> rfl

/-- The pour of the ACTIVE order asked to end with WITHDRAWN (R32). -/
theorem takeWithdrawOrder_active {b : Byte} (hb : b.toNat = o.val + 1) (v : s.vesselOpen = true) (st : (s.order o).state = .active) :
    takeWithdrawOrder b s =
      .done (orderlyEnd .withdrawn s) [BitVec.ofNat 8 ((orderlyEnd .withdrawn s).order o).state.place] := by
  rw [takeWithdrawOrder, onOrder_eq hb v (by rw [st]; nofun)]
  simp only [st, u8]

/-- A finished order is not withdrawn (R32). -/
theorem takeWithdrawOrder_finished {b : Byte} (hb : b.toNat = o.val + 1) (v : s.vesselOpen = true)
    (st : (s.order o).state = .done ∨ (s.order o).state = .short ∨ (s.order o).state = .withdrawn) :
    takeWithdrawOrder b s = .refuse s .state := by
  rw [takeWithdrawOrder, onOrder_eq hb v (OrderState.not_free_of_finished (OrderState.finished_of st))]
  rcases st with e | e | e <;> simp only [e]

/-- Settles O33: by the state of the order. -/
theorem ordersWithdrawn : Obligations.OrdersWithdrawn := by
  unfold Obligations.OrdersWithdrawn
  intro s b o ht hv hb
  refine ⟨fun h st hold => ⟨_, rfl, ?_⟩, fun st po => ?_,
    fun st => request_refused ht (takeWithdrawOrder_finished (s := idlePort .station s) hb hv st),
    fun st => request_refused ht (onOrder_free (s := idlePort .station s) hb hv st)⟩
  · have woken : (finishOrder o .withdrawn (idlePort .station s)).woken =
        idlePort .station (s.orderFinished o h .withdrawn).woken := by
      rw [finishOrder_eq (s := idlePort .station s) .withdrawn hold]
      exact (congrArg State.woken (orderFinished_setRx o h .withdrawn .station .idle s)).trans (woken_setRx .station .idle _)
    have taken := takeWithdrawOrder_waiting (s := idlePort .station s) hb hv st
    rw [woken] at taken
    exact request_answered ht taken
  · have ended : ((s.orderlyEnded .station .withdrawn).order o).state = .active ∨
        ((s.orderlyEnded .station .withdrawn).order o).state = .withdrawn :=
      orderlyEnd_withdrawn (s := idlePort .station s) po st
    refine ⟨s.orderlyEnded .station .withdrawn,
      BitVec.ofNat 8 ((s.orderlyEnded .station .withdrawn).order o).state.place,
      orderlyEnded_ends s .station .withdrawn, orderlyEnded_kept s .station .withdrawn, ?_,
      request_orderlyEnd ht (takeWithdrawOrder_active (s := idlePort .station s) hb hv st)⟩
    rcases ended with e | e <;> rw [e]
    · exact .inl ⟨rfl, rfl⟩
    · exact .inr ⟨rfl, rfl⟩

end Sys2Proof.Machine
end

section
/-! START, STEP and HALT SCHEDULE (R42 to R44, R58), each by the state of the scheduler. -/

set_option Elab.async false

namespace Sys2Proof.Machine

variable {s : State}

/-! ### The walk resumed, a round begun, the halt causes removed -/

/-- The walk resumed from a resting state (R42, R59). -/
theorem resumeWalk_eq (r : s.sched.state.resting = true) : resumeWalk s = s.resumed := by
  have leaves : SchedState.seeking ≠ s.sched.state := fun k => by rw [← k] at r; cases r
  rw [resumeWalk, enterState_leave r leaves, State.resumed]
  by_cases k : s.sched.pass = 0 ∧ s.sched.pos = 0
  · rw [if_pos k]
    exact (if_pos k).trans (startRound_eq _)
  · rw [if_neg k]
    exact if_neg k

theorem resumed_setRx (p : Port) (x : Receive) (s : State) : (s.setRx p x).resumed = s.resumed.setRx p x := by
  unfold State.resumed
  rw [show (s.setRx p x).sched = s.sched from rfl]
  split <;> exact raise_setRx_of rfl

/-- A new round from HELD or COMPLETE (R42, R46, R59). -/
theorem startRound_seeking (r : s.sched.state = .held ∨ s.sched.state = .complete) :
    startRound (enterState .seeking s) = (raise .schedule { s with sched.state := .seeking }).roundStarted := by
  rw [enterState_leave (by rcases r with e | e <;> rw [e] <;> rfl) (by rcases r with e | e <;> rw [e] <;> nofun), startRound_eq]

theorem roundStarted_setRx (p : Port) (x : Receive) (s : State) : (s.setRx p x).roundStarted = s.roundStarted.setRx p x := rfl

/-- A halt cause in the set stands while its input is asserted (R57); here the emergency stop input is not. -/
theorem haltStands_iff (e : s.inputs.eStop = false) :
    s.haltStands = true ↔
      (s.sched.halts.axis = true ∧ s.inputs.driveFault ≠ ⟨false, false, false⟩) ∨
        (s.sched.halts.belt = true ∧ s.inputs.beltConfirm = true) := by
  have line : (s.inputs.driveFault.gantry || s.inputs.driveFault.reach || s.inputs.driveFault.spout) = true ↔
      s.inputs.driveFault ≠ ⟨false, false, false⟩ := by
    obtain ⟨g, r, sp⟩ := s.inputs.driveFault
    simp only [ne_eq, PerAxis.mk.injEq, not_and_or, Bool.not_eq_false, Bool.or_eq_true, or_assoc]
  simp only [State.haltStands, e, Bool.and_false, Bool.false_or, Bool.or_eq_true (_ && _), Bool.and_eq_true, line]

/-- The record of an axis that leaves FAULT (R87), its class deadline by the confirmed class (R86). -/
theorem AxisRec.clear_eq (now : Time) (r : AxisRec) :
    r.clear now = { r with
      state := .idle, target := none, kind := none, commanded := .stop, moveDeadline := none, reason := none
      classDeadline := if r.confirmed = .stop then none else some (now + 2000) } := by
  simp only [AxisRec.clear, AxisRec.command, eq_comm (a := SpeedClass.stop), Config.classTimeout]

/-- The axes that START clears (R58, R87). -/
theorem clearAxisFaults_axis (s : State) (a : Axis) :
    (clearAxisFaults s).axis a =
      if (s.axis a).state = .fault ∧ s.inputs.driveFault.get a = false then
        { s.axis a with
          state := .idle, target := none, kind := none, commanded := .stop, moveDeadline := none, reason := none
          classDeadline := if (s.axis a).confirmed = .stop then none else some (s.now + 2000) }
      else s.axis a := by
  rw [← AxisRec.clear_eq]
  have one : ∀ (r : AxisRec) (line : Bool), (match r.state, line with | .fault, false => r.clear s.now | _, _ => r : AxisRec) =
      if r.state = .fault ∧ line = false then r.clear s.now else r := by
    intro r line
    split
    · next e => rw [if_pos ⟨e, rfl⟩]
    · next n => rw [if_neg fun ⟨e, l⟩ => n e l]
  cases a <;> exact one _ _

/-! ### START (R42, R58) -/

theorem takeStart_stopped (v : s.vesselOpen = true) (e : s.inputs.eStop = false) (st : s.sched.state = .stopped) :
    takeStart s = .done { s with sched.stepFlag := false }.resumed := by
  rw [takeStart, if_neg (by simp [v, e]), st]
  exact congrArg Taken.done (resumeWalk_eq (congrArg SchedState.resting st))

theorem takeStart_round (v : s.vesselOpen = true) (e : s.inputs.eStop = false)
    (st : s.sched.state = .held ∨ s.sched.state = .complete) :
    takeStart s = .done (raise .schedule { s with sched.state := .seeking, sched.stepFlag := false }).roundStarted := by
  have round := startRound_seeking (s := { s with sched.stepFlag := false }) st
  rw [takeStart, if_neg (by simp [v, e])]
  rcases st with st | st <;> rw [st] <;> exact congrArg Taken.done round

theorem takeStart_halted (v : s.vesselOpen = true) (e : s.inputs.eStop = false) (st : s.sched.state = .halted)
    (n : s.haltStands = false) : takeStart s = .done (clearHalts { s with sched.stepFlag := false }).resumed := by
  rw [takeStart, if_neg (by simp [v, e]), st, n]
  exact congrArg Taken.done (resumeWalk_eq (congrArg SchedState.resting st))

/-- What refuses START (R42, R58). -/
theorem takeStart_refused
    (h : (s.vesselOpen = false ∨ s.inputs.eStop = true) ∨ (s.sched.state = .halted ∧ s.haltStands = true) ∨
      s.sched.state = .seeking ∨ s.sched.state.isPour = true) : takeStart s = .refuse s .state := by
  unfold takeStart
  split
  · rfl
  · next on =>
    have on : ¬(s.vesselOpen = false ∨ s.inputs.eStop = true) := by simpa using on
    rcases h with h | ⟨st, stands⟩ | st
    · exact absurd h on
    · simp only [st, stands, if_true]
    · cases e : s.sched.state with
      | seeking | travelling | pouring | paused | draining => rfl
      | _ => rcases st with st | st <;> rw [e] at st <;> cases st

/-! ### STEP (R43) -/

theorem takeStep_stopped (v : s.vesselOpen = true) (e : s.inputs.eStop = false) (st : s.sched.state = .stopped) :
    takeStep s = .done { s with sched.stepFlag := true }.resumed := by
  rw [takeStep, if_pos (by simp [v, e, st]), resumeWalk_eq (by exact congrArg SchedState.resting st)]

/-- What refuses STEP (R43). -/
theorem takeStep_refused (h : (s.vesselOpen = false ∨ s.inputs.eStop = true) ∨ s.sched.state ≠ .stopped) :
    takeStep s = .refuse s .state := by
  refine if_neg fun on => ?_
  simp only [Bool.and_eq_true, Bool.not_eq_true', beq_iff_eq] at on
  rcases h with (v | e) | st
  · exact absurd (v.symm.trans on.1.1) nofun
  · exact absurd (e.symm.trans on.1.2) nofun
  · exact st on.2

/-- Settles O36: by the scheduler's state. -/
theorem walkStarted : Obligations.WalkStarted := by
  unfold Obligations.WalkStarted
  intro s ht
  have refused (h : (s.vesselOpen = false ∨ s.inputs.eStop = true) ∨ (s.sched.state = .halted ∧ s.haltStands = true) ∨
      s.sched.state = .seeking ∨ s.sched.state.isPour = true) : exec (.start .cab) s = .next (s.answered .cab 0x12 .state) :=
    request_refused ht (takeStart_refused (s := idlePort .cab s) h)
  have notStepped (h : (s.vesselOpen = false ∨ s.inputs.eStop = true) ∨ s.sched.state ≠ .stopped) :
      exec (.step .cab) s = .next (s.answered .cab 0x13 .state) :=
    request_refused ht (takeStep_refused (s := idlePort .cab s) h)
  refine ⟨fun v e => ⟨fun st => ⟨?_, ?_⟩, fun st => ?_, fun st axis belt => ?_,
    fun st stands => refused (.inr (.inl ⟨st, (haltStands_iff e).mpr stands⟩)), fun st => refused (.inr (.inr st)),
    fun st => notStepped (.inr st)⟩, fun h => ⟨refused (.inl h), notStepped (.inl h)⟩⟩
  · exact request_answered ht ((takeStart_stopped (s := idlePort .cab s) v e st).trans
      (congrArg Taken.done (resumed_setRx .cab .idle { s with sched.stepFlag := false })))
  · exact request_answered ht ((takeStep_stopped (s := idlePort .cab s) v e st).trans
      (congrArg Taken.done (resumed_setRx .cab .idle { s with sched.stepFlag := true })))
  · have raised := raise_setRx .schedule .cab .idle { s with sched.state := .seeking, sched.stepFlag := false }
    exact request_answered ht ((takeStart_round (s := idlePort .cab s) v e st).trans
      (congrArg (fun t => Taken.done t.roundStarted) raised))
  · have clear : s.haltStands = false := Bool.eq_false_iff.mpr fun stands => by
      rcases (haltStands_iff e).mp stands with ⟨on, line⟩ | ⟨on, line⟩
      · exact line (axis on)
      · exact absurd ((belt on).symm.trans line) nofun
    refine ⟨clearHalts { s with sched.stepFlag := false }, rfl,
      clearAxisFaults_axis { s with sched.stepFlag := false, sched.halts := ⟨false, false, false, false⟩ }, rfl, ?_⟩
    exact request_answered ht ((takeStart_halted (s := idlePort .cab s) v e st clear).trans
      (congrArg Taken.done (resumed_setRx .cab .idle (clearHalts { s with sched.stepFlag := false }))))

/-! ### HALT SCHEDULE (R44) -/

/-- HALT SCHEDULE with no pour in progress. -/
theorem takeHaltSchedule_idle (st : s.sched.state = .seeking ∨ s.sched.state = .held ∨ s.sched.state = .complete) :
    takeHaltSchedule s = .done (stopSchedule (stopAxes s)) := by
  have idle : s.pourOrder = none := pourOrder_none (by rcases st with e | e | e <;> rw [e] <;> rfl)
  rcases st with st | st | st <;> simp only [takeHaltSchedule, st, idle] <;> rfl

/-- HALT SCHEDULE in a pour: the end of the pour has stopped the axes already (R76). -/
theorem takeHaltSchedule_pour {o : OrderId} (po : s.pourOrder = some o) :
    takeHaltSchedule s = .done ((s.orderYielded o).pourOver.rested .stopped s.sched.halts) := by
  have isPour := isPour_of_pourOrder po
  have ended : stopAxes (immediateEnd .yield .haltSchedule s) = (s.orderYielded o).pourOver.rested .stopped s.sched.halts := by
    rw [immediateEnd_yield po, afterImmediate, stopSchedule_eq (s := (s.orderYielded o).pourOver) isPour]
    exact stopAxes_of_stopped (s := s) rfl
  cases st : s.sched.state with
  | travelling | pouring | paused | draining => simp only [takeHaltSchedule, st, po, ended, Option.isSome_some, if_true]
  | _ => rw [st] at isPour; cases isPour

/-- The schedule stopped where no pour is in progress (R44, R59). -/
theorem stopSchedule_enters (n : s.sched.state ≠ .stopped) : stopSchedule s = s.rested .stopped s.sched.halts :=
  if_pos ⟨n.symm, .inl rfl⟩

/-- Settles O37: by the scheduler's state. -/
theorem scheduleHalted : Obligations.ScheduleHalted := by
  unfold Obligations.ScheduleHalted
  intro s ht
  refine ⟨fun st => ?_, fun o po => ?_, fun st => ?_⟩
  · have enters : s.sched.state ≠ .stopped := by rcases st with e | e | e <;> rw [e] <;> nofun
    refine request_answered ht ((takeHaltSchedule_idle (s := idlePort .station s) st).trans (congrArg Taken.done ?_))
    exact (stopSchedule_enters (s := stopAxes (idlePort .station s)) enters).trans
      (rested_setRx .stopped _ .station .idle (stopAxes s))
  · exact request_answered ht ((takeHaltSchedule_pour (s := idlePort .station s) po).trans
      (congrArg Taken.done (rested_setRx .stopped _ .station .idle (s.orderYielded o).pourOver)))
  · refine request_refused ht ?_
    have e : (idlePort .station s).sched.state = s.sched.state := rfl
    rcases st with st | st <;> rw [takeHaltSchedule, e, st]

end Sys2Proof.Machine
end

section
/-! The end of a round, the tests of eligibility and the way of the cursor (R45, R48 to R51, R53). -/

set_option Elab.async false

namespace Sys2Proof.Machine

variable {s : State} {h : HoldId} {o : OrderId}

/-! ### The end of a round (R48, R53) -/

/-- What an examination has in its table when the cursor moves on from a position that activates no order (R48). -/
def State.Finds (s : State) (found : Vector (Option HeldCause) 8) : Prop :=
  ((∀ h, (s.chain s.sched.pass)[s.sched.pos.val]? = some h → s.queue h = []) ∧ found = s.sched.held) ∨
    (∃ h o rest c, (s.chain s.sched.pass)[s.sched.pos.val]? = some h ∧ s.queue h = o :: rest ∧
      found = s.sched.held.set h (some c) ∧ (((s.order o).state = .stalled ∧ c = .blocked) ∨
        ((s.order o).state = .ready ∧ s.ineligible h o = some c)))

/-- The last examination of a round, where it activates no order: the cursor returns to the first position, and the round ends. -/
theorem examine_last {found : Vector (Option HeldCause) 8} (e : s.sched.state = .seeking) (last : s.nextPosition = none)
    (f : s.Finds found) :
    examine s = { s with sched.pass := 0, sched.pos := 0, sched.held := found }.roundEnded := by
  have ends : moveOn { s with sched.held := found } =
      { s with sched.pass := 0, sched.pos := 0, sched.held := found }.roundEnded := by
    have last' : ({ s with sched.held := found } : State).nextPosition = none := last
    rw [moveOn_eq (by exact e), if_pos last', State.cursorOn, last']
  rw [← ends]
  rcases f with ⟨nothing, rfl⟩ | ⟨h, o, rest, c, at_, q, rfl, ⟨st, rfl⟩ | ⟨st, fails⟩⟩
  · exact examine_nothing e nothing
  · rw [examine_top e at_ q, if_neg (by rw [st]; nofun)]
    rfl
  · rw [examine_top e at_ q, if_pos st, fails]
    rfl

/-- The held-cause table of a round that rests (R53), from the causes the round has found. -/
def State.heldAtRest (s : State) (found : Vector (Option HeldCause) 8) : Vector (Option HeldCause) 8 :=
  tabulate fun h => if s.queue h = [] then none else if ∃ n, h ∈ s.chain n then found[h] else some .unplanned

theorem State.heldAtRest_get (s : State) (found : Vector (Option HeldCause) 8) (h : HoldId) :
    (s.heldAtRest found)[h] = if s.queue h = [] then none else if ∃ n, h ∈ s.chain n then found[h] else some .unplanned :=
  tabulate_getElem _ h.val h.isLt

/-- The last examination of a round in which nothing was activated (R53). -/
theorem examine_rests {found : Vector (Option HeldCause) 8} (e : s.sched.state = .seeking) (last : s.nextPosition = none)
    (f : s.Finds found) (p : s.sched.progress = false) :
    examine s = raise .schedule { s with
      sched.state := if ∀ h, s.queue h = [] then .complete else .held
      sched.pass := 0, sched.pos := 0, sched.held := s.heldAtRest found } := by
  rw [examine_last e last f]
  exact if_neg (by rw [p]; nofun)

/-- The last examination of a round with the progress flag SET (R53). -/
theorem examine_rounds {found : Vector (Option HeldCause) 8} (e : s.sched.state = .seeking) (last : s.nextPosition = none)
    (f : s.Finds found) (p : s.sched.progress = true) : examine s = s.roundStarted := by
  rw [examine_last e last f]
  exact if_pos p

/-! ### Eligibility (R49 to R51) -/

/-- The grade test of a hold applied to a lot: the lot has an account, whose grade the hold's key and mask admit (R50). -/
theorem lotPasses_iff {number : Nat} :
    s.lotPasses h number = true ↔
      ∃ l, s.lotSlot number = some l ∧ ((s.lot l).grade ^^^ (s.hold h).geom.key) &&& (s.hold h).geom.mask = 0 := by
  cases e : s.lotSlot number <;> simp [State.lotPasses, State.gradeOf, gradePasses, e]

/-- The grade test of a hold applied to the material in flight (R50). -/
theorem lotsInFlight_pass :
    s.lotsInFlight.all (s.lotPasses h) = true ↔
      (∀ r ∈ s.belt.records, s.lotPasses h r.lot = true) ∧ ∀ g, s.weigh.grant = some g → s.lotPasses h g.lot = true := by
  simp [State.lotsInFlight]

/-- The travel to an order's spot is feasible (R51, R116). -/
theorem travelFeasible_iff {spot : Option (Along × Across)} :
    s.travelFeasible h spot = true ↔ ∃ al ac, spot = some (al, ac) ∧
      s.travelHeight (s.moveFromGantry (s.spotX h al)) ≤ s.settings.upper.spout := by
  rcases spot with _ | ⟨al, ac⟩ <;> simp [State.travelFeasible, State.feasible]

/-- The eligibility tests in their order (R49). -/
def eligibilityTests : List HeldCause := [.closed, .excluded, .grade, .carryover, .full, .clearance]

/-- The tests as the model runs them. -/
def State.passesTest (s : State) (h : HoldId) (o : OrderId) : HeldCause → Bool
  | .closed => (s.hold h).declared && (s.hold h).hatchOpen
  | .excluded => !inSet s.exclusion h
  | .grade => (s.order o).isVisit || s.lotPasses h (s.order o).lot
  | .carryover => (s.order o).isVisit || s.lotsInFlight.all (s.lotPasses h)
  | .full => (s.order o).isVisit || !s.isFull h
  | .clearance => s.travelFeasible h (s.order o).spot
  | .blocked | .unplanned => true

/-- A test that does not concern visit orders. -/
theorem visit_or_iff {b : Bool} {P : Prop} (r : Order) (e : b = true ↔ P) : (r.isVisit || b) = true ↔ (0 < r.target → P) := by
  rw [Bool.or_eq_true, isVisit_iff, e, Nat.pos_iff_ne_zero, imp_iff_not_or, not_not]

theorem passesTest_iff (c : HeldCause) : s.passesTest h o c = true ↔ s.Fits h o c := by
  cases c with
  | closed => simp [State.passesTest, State.Fits]
  | excluded => simp [State.passesTest, State.Fits]
  | grade => exact visit_or_iff _ lotPasses_iff
  | carryover => exact visit_or_iff _ (by simp only [lotsInFlight_pass, lotPasses_iff])
  | full => exact visit_or_iff _ (by simp [State.isFull])
  | clearance => exact travelFeasible_iff
  | blocked | unplanned => exact iff_of_true rfl trivial

/-- The cause of an order is the first test that it fails (R49). -/
theorem ineligible_eq (s : State) (h : HoldId) (o : OrderId) :
    s.ineligible h o = eligibilityTests.find? fun c => !s.passesTest h o c := by
  unfold State.ineligible eligibilityTests
  simp only [List.find?_cons, List.find?_nil, State.passesTest, Bool.not_or, Bool.not_not, ← Bool.cond_eq_ite]
  rfl

/-- No cause is found where every test is passed; BLOCKED and UNPLANNED come from no test (R49). -/
theorem ineligible_eq_none_iff : s.ineligible h o = none ↔ ∀ c, s.Fits h o c := by
  rw [ineligible_eq, List.find?_eq_none]
  simp only [Bool.not_eq_true', Bool.not_eq_false, passesTest_iff]
  refine ⟨fun all c => ?_, fun all c _ => all c⟩
  cases c with
  | blocked | unplanned => trivial
  | _ => exact all _ (by decide)

/-- A cause is found where its test fails and those before it are passed (R49). -/
theorem ineligible_eq_some_iff {before after : List HeldCause} {c : HeldCause} (e : eligibilityTests = before ++ c :: after) :
    s.ineligible h o = some c ↔ ¬s.Fits h o c ∧ ∀ d ∈ before, s.Fits h o d := by
  have nodup : eligibilityTests.Nodup := by decide
  rw [e, List.nodup_middle, List.nodup_cons, List.mem_append, not_or] at nodup
  obtain ⟨⟨notBefore, notAfter⟩, -⟩ := nodup
  rw [ineligible_eq, List.find?_eq_some_iff_append, e]
  simp only [Bool.not_not, Bool.not_eq_true', ← passesTest_iff, Bool.not_eq_true]
  refine and_congr_right fun _ => ⟨fun ⟨passed, rest, split_, pass⟩ => ?_, fun pass => ⟨before, after, rfl, pass⟩⟩
  obtain ⟨rfl, -, -⟩ := (List.append_cons_inj_of_notMem notBefore notAfter).mp split_
  exact pass

/-! ### The way of the cursor (R45) -/

theorem find?_finRange_iff {n : Nat} {f : Fin n → Bool} {o : Fin n} :
    (List.finRange n).find? f = some o ↔ f o = true ∧ ∀ k < o, f k = false := by
  refine ⟨fun e => ⟨List.find?_some e, fun k lt => ?_⟩, fun ⟨t, l⟩ => find?_finRange t l⟩
  obtain ⟨-, i, hi, rfl, first⟩ := List.find?_eq_some_iff_getElem.mp e
  simpa using first k.val (by simpa [Fin.lt_def] using lt)

/-- Where the cursor goes on from a position (R45). -/
theorem nextPosition_iff {n : PassId} {k : Fin 8} (nd : ∀ m, (s.chain m).Nodup) :
    s.nextPosition = some (n, k) ↔
      (n = s.sched.pass ∧ k.val = s.sched.pos.val + 1 ∧ k.val < (s.chain n).length) ∨
        (k = 0 ∧ (s.chain s.sched.pass).length ≤ s.sched.pos.val + 1 ∧ s.sched.pass < n ∧ s.chain n ≠ [] ∧
          ∀ m, s.sched.pass < m → m < n → s.chain m = []) := by
  have short : (s.chain s.sched.pass).length ≤ 8 := by simpa using (nd s.sched.pass).length_le_card
  unfold State.nextPosition
  split
  · next further =>
    rw [Option.some.injEq, Prod.mk.injEq, Fin.ext_iff (b := k)]
    refine ⟨fun ⟨pass, pos⟩ => .inl ⟨pass.symm, pos.symm, ?_⟩, fun at_ => ?_⟩
    · rw [← pass, ← pos]; exact further.2
    · rcases at_ with ⟨pass, pos, -⟩ | ⟨-, past, -⟩
      · exact ⟨pass.symm, pos.symm⟩
      · exact absurd further.2 (by omega)
  · next leaves =>
    have past : (s.chain s.sched.pass).length ≤ s.sched.pos.val + 1 := by omega
    simp only [Option.map_eq_some_iff, Prod.mk.injEq, find?_finRange_iff, Bool.and_eq_true, Bool.and_eq_false_imp,
      decide_eq_true_eq, Bool.not_eq_true', Bool.not_eq_false', List.isEmpty_iff, List.isEmpty_eq_false_iff]
    refine ⟨?_, fun at_ => ?_⟩
    · rintro ⟨n, ⟨⟨later, ne⟩, empty⟩, rfl, rfl⟩
      exact .inr ⟨rfl, past, later, ne, fun m after before => empty m before after⟩
    · rcases at_ with ⟨rfl, pos, further⟩ | ⟨rfl, -, later, ne, empty⟩
      · exact absurd further (by omega)
      · exact ⟨n, ⟨⟨later, ne⟩, fun m before after => empty m after before⟩, rfl, rfl⟩

/-- Settles O39: the last examination of a round, the first test failed, and the cursor's next place. -/
theorem roundsEndAndEligibility : Obligations.RoundsEndAndEligibility := by
  unfold Obligations.RoundsEndAndEligibility
  refine ⟨fun s nr e last found f => ?_, fun s h o => ⟨ineligible_eq_none_iff, fun _ _ _ => ineligible_eq_some_iff⟩,
    fun s n k => nextPosition_iff⟩
  have run : ∀ {t : State}, examine s = t → exec .examination s = .next t := fun k =>
    (event_taken nr).trans (congrArg _ k)
  refine ⟨fun p => run (examine_rounds e last f p), fun p => ⟨s.heldAtRest found, s.heldAtRest_get found, fun all => ?_,
    fun some_ => ?_⟩⟩
  · refine run ((examine_rests e last f p).trans ?_)
    rw [if_pos all]
  · refine run ((examine_rests e last f p).trans ?_)
    rw [if_neg fun all => some_.elim fun h ne => ne (all h)]

end Sys2Proof.Machine
end

section
/-! SCALE STATUS and NEXT BATCH (R71 to R73, R120 to R124). -/

set_option Elab.async false

namespace Sys2Proof.Machine

variable {s : State} {o : OrderId} {h : HoldId}

/-! ### SCALE STATUS (R120) -/

/-- The readiness carried is written, and the grant the scale still owes is answered. -/
theorem takeScaleStatus_eq {b : Byte} {ready : Bool} (e : b.toNat = if ready then 0 else 1) :
    takeScaleStatus b s = .done { s with weigh.ready := ready }
      (b :: opt (fun g : Grant => u16 g.batch ++ u8 (g.order.val + 1) ++ u16 g.size) s.weigh.grant) := by
  have byte : b = BitVec.ofNat 8 (if ready then 0 else 1) := BitVec.eq_of_toNat_eq (by rw [e]; cases ready <;> rfl)
  have read : readinessOf b = some ready := by
    unfold readinessOf
    rw [e]
    cases ready <;> rfl
  rw [takeScaleStatus, read, byte]
  rfl

theorem takeScaleStatus_badField {b : Byte} (n : 1 < b.toNat) : takeScaleStatus b s = .refuse s .badField := by
  have none_ : readinessOf b = none := by
    unfold readinessOf
    split
    · omega
    · omega
    · rfl
  rw [takeScaleStatus, none_]

/-! ### NEXT BATCH (R121) -/

/-- A poll that is not permitted: WAIT with the reason. -/
theorem takeNextBatch_waits {r : WaitReason} (e : s.waitReason = some r) : takeNextBatch s = .done s (waitItems r s) := by
  rw [takeNextBatch, e]

/-- The first condition of R71 that fails, by its place in the list of R175. -/
theorem waitReason_place {place : Byte}
    (e : (s.sched.state ≠ .pouring ∧ place = 0) ∨
      (s.sched.state = .pouring ∧ s.pour.supervision ≠ .running ∧ place = 1) ∨
      (s.sched.state = .pouring ∧ s.pour.supervision = .running ∧ s.weigh.grant ≠ none ∧ place = 2) ∨
      (s.sched.state = .pouring ∧ s.pour.supervision = .running ∧ s.weigh.grant = none ∧ 16 ≤ s.belt.records.length ∧
        place = 3) ∨
      (s.sched.state = .pouring ∧ s.pour.supervision = .running ∧ s.weigh.grant = none ∧ s.belt.records.length < 16 ∧
        s.weigh.ready = false ∧ place = 4)) :
    ∃ r, s.waitReason = some r ∧ BitVec.ofNat 8 r.place = place := by
  unfold State.waitReason Config.maxRecords
  rcases e with ⟨st, rfl⟩ | ⟨st, sup, rfl⟩ | ⟨st, sup, g, rfl⟩ | ⟨st, sup, g, full, rfl⟩ | ⟨st, sup, g, room, ready, rfl⟩
  · exact ⟨.notPouring, by simp [st], rfl⟩
  · exact ⟨.beltNotRunning, by simp [st, sup], rfl⟩
  · exact ⟨.grantOutstanding, by simp [st, sup, Option.isSome_iff_ne_none, g], rfl⟩
  · exact ⟨.beltFull, by simp [st, sup, g, full], rfl⟩
  · exact ⟨.scaleNotReady, by simp [st, sup, g, Nat.not_le.mpr room, ready], rfl⟩

/-- A permitted poll (R71). -/
theorem takeNextBatch_permitted (st : s.sched.state = .pouring) (sup : s.pour.supervision = .running) (g : s.weigh.grant = none)
    (room : s.belt.records.length < 16) (ready : s.weigh.ready = true) (act : s.sched.active = some o)
    (hold : (s.order o).hold = some h) : takeNextBatch s = permittedPoll o h s := by
  have reason : s.waitReason = none := by
    simp [State.waitReason, Config.maxRecords, st, sup, g, Nat.not_le.mpr room, ready]
  have po : s.pourOrder = some o := by rw [State.pourOrder, st, act]; rfl
  have ph : s.pourHold = some h := by rw [State.pourHold, po]; exact hold
  rw [takeNextBatch, reason, po, ph]

/-- Settles O50: SCALE STATUS by its field; NEXT BATCH by its conditions, then by the size of the grant. -/
theorem scalePolled : Obligations.ScalePolled := by
  unfold Obligations.ScalePolled
  intro s ht
  refine ⟨fun b ready e => ?_, fun b n => ?_, fun place e => ?_, fun o h size st sup g room ready act hold e => ?_⟩
  · exact request_answered ht (takeScaleStatus_eq (s := idlePort .scale s) e)
  · exact request_refused ht (takeScaleStatus_badField (s := idlePort .scale s) n)
  · obtain ⟨r, reason, rfl⟩ := waitReason_place e
    exact request_answered ht (takeNextBatch_waits (s := idlePort .scale s) reason)
  · have poll := takeNextBatch_permitted (s := idlePort .scale s) st sup g room ready act hold
    have granted : (idlePort .scale s).grantSize o h = size := e.symm
    refine ⟨fun enough => ?_, fun small => ⟨_, orderlyEnded_ends s .scale _, orderlyEnded_kept s .scale _, ?_⟩⟩
    · subst e
      exact request_answered ht (poll.trans (if_pos enough))
    · have noGrant : waitItems .pourEnded (idlePort .scale s) = [1, 5, 0] := by
        rw [waitItems, show (idlePort .scale s).weigh.grant = none from g]
        rfl
      refine request_orderlyEnd ht (poll.trans ((if_neg (Nat.not_le.mpr (granted ▸ small))).trans ?_))
      rw [noGrant]
      rfl

end Sys2Proof.Machine
end

section
/-! A travel as a chain of its writes (R84, R92 to R97). `TravelStep` says once what a travel operation may write; each operation is a
chain of such writes, and a law of the axes or of the phase is proved of the six of them. -/

set_option Elab.async false

namespace Sys2Proof.Machine

variable {s t u : State}

/-! ### The writes of a travel -/

/-- One write of a travel operation: a move given to an axis, GANTRY and REACH stopped, the travel height written, a phase begun, the
wait for clearance, the travel over. -/
inductive TravelStep : State → State → Prop
  | move (a : Axis) (k : MoveKind) (x : Int) (s : State) : TravelStep s (moveAxis a k x s)
  | stop (s : State) : TravelStep s (stopTraverse s)
  | height (s : State) : TravelStep s (writeHeight s)
  | enter (p : Phase) (s : State) (h : p ≠ .none) : TravelStep s { s with spout.phase := p, spout.cond := some .inProgress }
  | wait (s : State) (h : s.spout.phase ≠ .none) : TravelStep s { s with spout.cond := some .clearanceWait }
  | complete (s : State) : TravelStep s (travelOver s)

/-- A chain of writes of travel operations. -/
def Travelled : State → State → Prop := Relation.ReflTransGen TravelStep

theorem Travelled.refl (s : State) : Travelled s s := Relation.ReflTransGen.refl

theorem Travelled.trans (a : Travelled s t) (b : Travelled t u) : Travelled s u := Relation.ReflTransGen.trans a b

theorem TravelStep.travelled (h : TravelStep s t) : Travelled s t := Relation.ReflTransGen.single h

/-- A travel operation's answer: a chain of writes, and a travel reported complete is in no phase. -/
structure Answers (s : State) (r : State × Bool) : Prop where
  chain : Travelled s r.1
  done : r.2 = true → r.1.spout.phase = .none

theorem Answers.after {r : State × Bool} (a : Travelled s t) (b : Answers t r) : Answers s r := ⟨a.trans b.chain, b.done⟩

/-- An operation that reports no completion. -/
theorem Travelled.answers (a : Travelled s t) : Answers s (t, false) := ⟨a, nofun⟩

@[simp] theorem moveAxis_spout (a : Axis) (k : MoveKind) (x : Int) (s : State) : (moveAxis a k x s).spout = s.spout := by
  unfold moveAxis; split <;> rfl

/-! ### Each operation -/

theorem lowerMove_travelled (s : State) : Travelled s (lowerMove s) := by
  unfold lowerMove; split
  · exact (TravelStep.move ..).travelled
  · exact .refl s

theorem checkLower_answers (s : State) : Answers s (checkLower s) := by
  unfold checkLower; split
  · exact ⟨(TravelStep.complete s).travelled, fun _ => rfl⟩
  · exact (Travelled.refl s).answers

theorem beginLower_answers (s : State) : Answers s (beginLower s) :=
  .after (TravelStep.enter .lower s nofun).travelled (.after (lowerMove_travelled _) (checkLower_answers _))

theorem checkTraverse_answers (s : State) : Answers s (checkTraverse s) := by
  unfold checkTraverse; split
  · exact beginLower_answers s
  · exact (Travelled.refl s).answers

theorem moveTo_travelled (a : Axis) (x : Option Int) (s : State) : Travelled s (moveTo a x s) := by
  unfold moveTo; split
  · exact (TravelStep.move ..).travelled
  · exact .refl s

theorem beginTraverse_answers (s : State) : Answers s (beginTraverse s) :=
  .after (TravelStep.enter .traverse s nofun).travelled
    (.after (moveTo_travelled ..) (.after (moveTo_travelled ..) (checkTraverse_answers _)))

theorem checkRaise_answers (h : s.spout.phase ≠ .none) : Answers s (checkRaise s) := by
  unfold checkRaise; split
  · split
    · exact beginTraverse_answers s
    · exact (TravelStep.wait s h).travelled.answers
  · exact (Travelled.refl s).answers

theorem raiseMove_answers (h : s.spout.phase ≠ .none) : Answers s (raiseMove s) :=
  .after (TravelStep.enter s.spout.phase s h).travelled
    (.after (TravelStep.move ..).travelled (checkRaise_answers (by rw [moveAxis_spout]; exact h)))

theorem beginRaise_answers (s : State) : Answers s (beginRaise s) := by
  have h : Travelled s (writeHeight { s with spout.phase := .raise, spout.cond := some .inProgress }) :=
    (TravelStep.enter .raise s nofun).travelled.trans (TravelStep.height _).travelled
  unfold beginRaise; dsimp only; split
  · exact .after h (beginTraverse_answers _)
  · exact .after h (raiseMove_answers nofun)

theorem retakeRaise_answers (h : s.spout.phase ≠ .none) : Answers s (retakeRaise s) := by
  have w := (TravelStep.height s).travelled
  unfold retakeRaise; dsimp only; split
  · exact .after w (beginTraverse_answers _)
  · split
    · exact w.answers
    · exact .after w (raiseMove_answers h)

theorem checkHeight_answers (s : State) : Answers s (checkHeight s) := by
  have w := (TravelStep.height s).travelled
  unfold checkHeight; dsimp only; split
  · exact w.answers
  · exact .after (w.trans (TravelStep.stop _).travelled) (beginRaise_answers _)

theorem retakeLower_answers (s : State) : Answers s (retakeLower s) := by
  unfold retakeLower; split
  · split
    · exact (Travelled.refl s).answers
    · exact .after (lowerMove_travelled s) (checkLower_answers _)
  · exact (Travelled.refl s).answers

theorem track_travelled (s : State) : Travelled s (track s) := by
  unfold track; split
  · split
    · exact (TravelStep.move ..).travelled
    · exact .refl s
  · exact .refl s

theorem recomputeTravel_answers (b : Bool) (s : State) : Answers s (recomputeTravel b s) := by
  have raise : s.spout.phase = .raise → Answers s (if b then (s, false) else retakeRaise s) := fun e => by
    split
    · exact (Travelled.refl s).answers
    · exact retakeRaise_answers (by rw [e]; nofun)
  unfold recomputeTravel; split
  · next e _ => exact raise e
  · next e _ => exact raise e
  · split
    · exact (Travelled.refl s).answers
    · exact checkHeight_answers s
  · exact retakeLower_answers s
  · exact (track_travelled s).answers

theorem spoutArrived_answers (s : State) : Answers s (spoutArrived s) := by
  unfold spoutArrived; split
  · next e _ => exact checkRaise_answers (by rw [e]; nofun)
  · next e _ => exact retakeRaise_answers (by rw [e]; nofun)
  · exact checkHeight_answers s
  · exact checkLower_answers s
  · exact (Travelled.refl s).answers

theorem traverseArrived_answers (s : State) : Answers s (traverseArrived s) := by
  unfold traverseArrived; split
  · exact checkTraverse_answers s
  · exact (Travelled.refl s).answers

theorem restartTravel_answers (seen : Bool) (s : State) : Answers s (restartTravel seen s) := by
  unfold restartTravel; dsimp only; split
  · exact beginRaise_answers s
  · split
    · split
      · exact .after (TravelStep.height s).travelled (beginTraverse_answers _)
      · exact beginRaise_answers s
    · exact beginLower_answers s
    · exact beginRaise_answers s
    · exact beginRaise_answers s

/-! ### With no travel in progress -/

/-- No travel is in progress and none waits for clearance; the travel condition is present exactly in a phase (R96 to R99). -/
structure TravelIdle (s : State) : Prop where
  phase : s.spout.cond.isSome = true ↔ s.spout.phase ≠ .none
  going : s.spout.cond ≠ some .inProgress
  waiting : s.spout.cond ≠ some .clearanceWait

theorem recomputeTravel_idle (b : Bool) (i : TravelIdle s) : recomputeTravel b s = (track s, false) := by
  unfold recomputeTravel; split
  · next e => exact absurd e i.going
  · next e => exact absurd e i.waiting
  · next e => exact absurd e i.going
  · next e => exact absurd e i.going
  · rfl

theorem spoutArrived_idle (i : TravelIdle s) : spoutArrived s = (s, false) := by
  unfold spoutArrived; split
  · next e => exact absurd e i.going
  · next e => exact absurd e i.waiting
  · next e => exact absurd e i.going
  · next e => exact absurd e i.going
  · rfl

end Sys2Proof.Machine
end

section
/-! The law of the axes (R79, R84 to R89) through moves, stops and faults, through the travel operations, and through the operations
that begin, feed, pause and end a pour. -/

set_option Elab.async false

namespace Sys2Proof.Machine

variable {s t : State}

/-! ### One axis -/

section
variable {r : AxisRec} {inReset eStop : Bool}

/-- A class commanded starts the class deadline exactly where it is not the confirmed class (R86). -/
theorem AxisRec.command_deadline (now : Time) (c : SpeedClass) (r : AxisRec) :
    (r.command now c).classDeadline.isSome = true ↔ c ≠ r.confirmed := by
  unfold AxisRec.command
  by_cases e : c = r.confirmed <;> simp [e]

/-- An axis in IDLE or INPOS that has been commanded STOP, with no move deadline, meets the law. -/
theorem AxisRec.law_of_stopped (state : r.state = .idle ∨ r.state = .inpos) (commanded : r.commanded = .stop)
    (move : r.moveDeadline = none) (cls : r.classDeadline.isSome = true ↔ r.commanded ≠ r.confirmed) :
    r.Law inReset eStop := by
  have still : r.state ≠ .moving := by rcases state with e | e <;> rw [e] <;> nofun
  have whole : r.state ≠ .fault := by rcases state with e | e <;> rw [e] <;> nofun
  exact ⟨by simp [still, move], fun _ => commanded, fun e => absurd e still, fun _ _ => still, fun e => absurd e whole,
    fun _ _ => cls⟩

/-- An axis with a target and a kind that is given a class with a move deadline meets the law outside an emergency stop. -/
theorem AxisRec.law_of_moving (state : r.state = .moving) (move : r.moveDeadline.isSome = true) (target : r.target.isSome = true)
    (kind : r.kind.isSome = true) (cls : r.classDeadline.isSome = true ↔ r.commanded ≠ r.confirmed)
    (e : inReset = false → eStop = false) : r.Law inReset eStop :=
  ⟨by simp [state, move], fun n => absurd state n, fun _ => ⟨target, kind⟩, fun a b => absurd b (by rw [e a]; nofun),
    fun f => absurd f (by rw [state]; nofun), fun _ _ => cls⟩

theorem AxisRec.arrive_law (now : Time) (r : AxisRec) : (r.arrive now).Law inReset eStop :=
  law_of_stopped (.inr rfl) rfl rfl (command_deadline now .stop r)

theorem AxisRec.move_law (now : Time) (tol fine : Nat) (lo hi : Int) (timeout : Nat) (k : MoveKind) (x : Int) (r : AxisRec)
    (e : eStop = false) : (r.move now tol fine lo hi timeout k x).Law inReset eStop := by
  unfold AxisRec.move; dsimp only; split
  · exact arrive_law now _
  · exact law_of_moving rfl rfl rfl rfl (command_deadline now _ _) fun _ => e

/-- A stop leaves no axis MOVING, under an emergency stop too (R79, R89). -/
theorem AxisRec.halt_law (now : Time) (h : r.Law inReset false) : (r.halt now).Law inReset eStop := by
  unfold AxisRec.halt
  split
  · exact law_of_stopped (.inl rfl) rfl rfl (command_deadline now .stop r)
  all_goals
    next e =>
    obtain ⟨move, stopped, aimed, -, fault, cls⟩ := h
    exact ⟨move, stopped, aimed, fun _ _ => by rw [e]; nofun, fault, cls⟩

/-- An emergency stop asks the more of an axis. -/
theorem AxisRec.Law.released (h : r.Law inReset eStop) : r.Law inReset false := by
  obtain ⟨move, stopped, aimed, -, fault, cls⟩ := h
  exact ⟨move, stopped, aimed, nofun, fault, cls⟩

/-- In reset the emergency stop input asks nothing of an axis (R184). -/
theorem AxisRec.Law.in_reset {e : Bool} (h : r.Law true eStop) : r.Law true e := by
  obtain ⟨move, stopped, aimed, -, fault, -⟩ := h
  exact ⟨move, stopped, aimed, nofun, fault, nofun⟩

theorem AxisRec.fail_law (why : AxisReason) (r : AxisRec) : (r.fail why).Law inReset eStop :=
  ⟨by simp [AxisRec.fail], fun _ => rfl, nofun, fun _ _ => nofun, fun _ => rfl, fun _ n => absurd rfl n⟩

theorem AxisRec.clear_law (now : Time) (r : AxisRec) : (r.clear now).Law inReset eStop :=
  law_of_stopped (.inl rfl) rfl rfl (command_deadline now .stop _)

theorem AxisRec.cleared_law : AxisRec.cleared.Law inReset eStop :=
  law_of_stopped (.inl rfl) rfl rfl (by simp [AxisRec.cleared])

/-- A position is no part of the law. -/
theorem AxisRec.Law.at (h : r.Law inReset eStop) (x : Option Int) : { r with position := x }.Law inReset eStop := h

/-- The record after a class arrival (R86). -/
theorem AxisRec.confirm_eq (now : Time) (c : SpeedClass) (r : AxisRec) :
    r.confirm now c = { r with
      confirmed := c
      classDeadline :=
        if r.state = .fault then r.classDeadline
        else if c = r.commanded then none
        else some (r.classDeadline.getD (now + Config.classTimeout)) } := by
  obtain ⟨state, _, _, _, _, _, _, _, _⟩ := r
  cases state <;> rfl

/-- A class arrival keeps the class deadline in step with the confirmed class (R86). -/
theorem AxisRec.confirm_law (now : Time) (c : SpeedClass) (h : r.Law inReset eStop) : (r.confirm now c).Law inReset eStop := by
  obtain ⟨move, stopped, aimed, still, fault, -⟩ := h
  rw [confirm_eq]
  refine ⟨move, stopped, aimed, still, fun f => ?_, fun _ n => ?_⟩
  · dsimp only at f ⊢
    rw [if_pos f, fault f]
  · dsimp only at n ⊢
    rw [if_neg n]
    by_cases e : c = r.commanded
    · simp [e]
    · simp [e, Ne.symm e]

/-- An arrival applied to a move keeps the law (R85). -/
theorem AxisRec.advance_law (now : Time) (tol fine : Nat) (h : r.Law inReset eStop) :
    (r.advance now tol fine).Law inReset eStop := by
  obtain ⟨move, stopped, aimed, still, fault, cls⟩ := id h
  have regraded : ∀ c : SpeedClass, r.state = .moving → (r.command now c).Law inReset eStop := fun c e =>
    ⟨move, fun n => absurd e n, aimed, still, fun f => (by rw [show r.state = .fault from f] at e; cases e),
      fun _ _ => command_deadline now c r⟩
  unfold AxisRec.advance
  split
  · next e _ _ =>
    split
    · exact arrive_law now r
    · split
      · split
        · exact h
        · exact regraded _ e
      · exact h
  · exact h

end

/-! ### The three axes -/

/-- A state that agrees with another in the axes and in what stops them. -/
theorem AxesLaw.congr (h : AxesLaw s) (axes : t.axes = s.axes := by rfl) (inReset : t.inReset = s.inReset := by rfl)
    (eStop : t.inputs.eStop = s.inputs.eStop := by rfl) : AxesLaw t := fun a => by
  rw [State.axis, axes, inReset, eStop]; exact h a

theorem Scheduled.axesLaw (f : Scheduled s t) (h : AxesLaw s) : AxesLaw t := by
  obtain ⟨_, _, _, rfl⟩ := f; exact h

theorem setAxis_axesLaw {a : Axis} {r : AxisRec} (h : AxesLaw s) (l : r.Law s.inReset s.inputs.eStop) :
    AxesLaw (s.setAxis a r) := fun b => by
  rw [State.axis_setAxis]
  split
  · exact l
  · exact h b

theorem moveAxis_axesLaw (a : Axis) (k : MoveKind) (x : Int) (h : AxesLaw s) : AxesLaw (moveAxis a k x s) := by
  unfold moveAxis
  split
  · exact h
  · next n => exact setAxis_axesLaw h (AxisRec.move_law (e := by simpa using fun e => n (.inr e)) ..)

theorem stopAxes_axesLaw (h : AxesLaw s) : AxesLaw (stopAxes s) := fun a => by
  simp only [State.axis, stopAxes, PerAxis.get_map]
  exact AxisRec.halt_law s.now (h a).released

theorem TravelStep.axesLaw (c : TravelStep s t) (h : AxesLaw s) : AxesLaw t := by
  cases c with
  | move => exact moveAxis_axesLaw _ _ _ h
  | stop =>
    have halted : ∀ a, ((s.axis a).halt s.now).Law s.inReset s.inputs.eStop := fun a => AxisRec.halt_law s.now (h a).released
    exact setAxis_axesLaw (a := .reach) (setAxis_axesLaw (a := .gantry) h (halted .gantry)) (halted .reach)
  | height | enter | wait | complete => exact h

theorem Travelled.axesLaw (c : Travelled s t) (h : AxesLaw s) : AxesLaw t := by
  induction c with
  | refl => exact h
  | tail _ c ih => exact c.axesLaw ih

/-! ### The operations that begin, feed, pause and end a pour -/

theorem setRunLine_axesLaw (h : AxesLaw s) : AxesLaw (setRunLine s) := by
  rw [setRunLine_lineSet]; exact h

theorem commitAmendments_axesLaw (h : AxesLaw s) : AxesLaw (commitAmendments s) := by
  unfold commitAmendments; dsimp only; split
  · exact (wake_scheduled _).axesLaw h
  · exact h

theorem Ends.axesLaw {o : OrderId} {x : Order} (d : Ends o x s t) (h : AxesLaw s) : AxesLaw t := by
  obtain ⟨_, _, _, rfl⟩ := d; exact h

theorem immediateEnd_axesLaw (c : ImmediateCause) (k : After) (h : AxesLaw s) : AxesLaw (immediateEnd c k s) := by
  unfold immediateEnd; split
  · exact (afterImmediate_scheduled k _).axesLaw
      (commitAmendments_axesLaw ((recordImmediate_ends _ c _).axesLaw (stopAxes_axesLaw h)))
  · exact h

theorem goOn_axesLaw (next : Option OrderId) (h : AxesLaw s) : AxesLaw (goOn s next).1 := by
  unfold goOn; split
  · exact (walkOn_scheduled s).axesLaw h
  · split
    · exact h
    · exact (walkOn_scheduled s).axesLaw h

theorem finaliseStep_axesLaw (c : EndCause) (h : AxesLaw s) : AxesLaw (finaliseStep c s).1 := by
  cases p : s.pourOrder with
  | none => simpa only [finaliseStep, p] using h
  | some o =>
    rw [finaliseStep_eq c p]
    exact goOn_axesLaw _ (commitAmendments_axesLaw ((finishOrder_ends o c _).axesLaw (stopAxes_axesLaw h)))

theorem enterPaused_axesLaw (ret : ReturnState) (h : AxesLaw s) : AxesLaw (enterPaused ret s) := by
  have stopped := stopAxes_axesLaw ((enterState_scheduled .paused s).axesLaw h)
  have abandoned : AxesLaw (abandonTravel (stopAxes (enterState .paused s))) := by
    unfold abandonTravel; split <;> exact stopped
  exact setRunLine_axesLaw abandoned

theorem writeSpot_axesLaw (k : HoldId) (spot : Option (Along × Across)) (h : AxesLaw s) : AxesLaw (writeSpot k spot s) := by
  unfold writeSpot; split <;> exact h

theorem activateStep_axesLaw (o : OrderId) (h : AxesLaw s) : AxesLaw (activateStep o s).1 := by
  cases e : (s.order o).hold with
  | none => simpa only [activateStep, e] using (walkOn_scheduled s).axesLaw h
  | some k =>
    have begun : AxesLaw (pourBegun o k s) := (enterState_scheduled _ _).axesLaw h
    have spotted := writeSpot_axesLaw k (s.order o).spot begun
    rw [activateStep_eq e]
    split
    · exact immediateEnd_axesLaw _ _ begun
    · split
      · exact (beginRaise_answers _).chain.axesLaw spotted
      · exact enterPaused_axesLaw _ spotted

theorem enterFeeding_axesLaw (st : SchedState) (h : AxesLaw s) : AxesLaw (enterFeeding st s) :=
  (track_travelled _).axesLaw (setRunLine_axesLaw ((enterState_scheduled st s).axesLaw h))

theorem runActivation_axesLaw (n : Nat) (o : OrderId) (h : AxesLaw s) : AxesLaw (runActivation n o s) := by
  induction n generalizing o s with
  | zero => exact (walkOn_scheduled s).axesLaw h
  | succ n ih =>
    have a := activateStep_axesLaw o h
    unfold runActivation
    split
    · next t e => rw [e] at a; exact a
    · next t e =>
      rw [e] at a
      split
      · have f := finaliseStep_axesLaw .complete a
        split
        · next u m e => rw [e] at f; exact ih m f
        · next u e => rw [e] at f; exact f
      · exact enterFeeding_axesLaw _ a

theorem activate_axesLaw (o : OrderId) (h : AxesLaw s) : AxesLaw (activate o s) := runActivation_axesLaw 65 o h

theorem finalise_axesLaw (c : EndCause) (h : AxesLaw s) : AxesLaw (finalise c s) := by
  have f := finaliseStep_axesLaw c h
  unfold finalise
  split
  · next t n e => rw [e] at f; exact activate_axesLaw n f
  · next t e => rw [e] at f; exact f

theorem finalisationTest_axesLaw (h : AxesLaw s) : AxesLaw (finalisationTest s) := by
  unfold finalisationTest; split
  · exact finalise_axesLaw _ h
  · exact h

theorem travelComplete_axesLaw (h : AxesLaw s) : AxesLaw (travelComplete s) := by
  unfold travelComplete
  split
  · exact h
  · split
    · exact finalise_axesLaw _ h
    · split
      · exact enterFeeding_axesLaw _ h
      · exact finalisationTest_axesLaw (enterFeeding_axesLaw _ h)

theorem settle_axesLaw {r : State × Bool} (a : Answers s r) (h : AxesLaw s) : AxesLaw (settle r) := by
  have l := a.chain.axesLaw h
  unfold settle; split
  · exact travelComplete_axesLaw l
  · exact l

theorem orderlyEnd_axesLaw (c : EndCause) (h : AxesLaw s) : AxesLaw (orderlyEnd c s) := by
  unfold orderlyEnd; dsimp only
  split
  · exact finalisationTest_axesLaw (setRunLine_axesLaw ((enterState_scheduled .draining _).axesLaw h))
  · split
    · exact finalise_axesLaw _ h
    · exact h
  · split
    · exact finalise_axesLaw _ h
    · exact h
  · split
    · exact finalise_axesLaw _ h
    · exact h
  all_goals exact h

theorem addReason_axesLaw (c : PauseReason) (h : AxesLaw s) : AxesLaw (addReason c s) := by
  unfold addReason; dsimp only
  split
  · split
    · exact enterPaused_axesLaw _ h
    · exact h
  · split
    · exact enterPaused_axesLaw _ h
    · exact h
  · split <;> exact h
  all_goals exact h

theorem leavePause_axesLaw (h : AxesLaw s) : AxesLaw (leavePause s) := by
  have travels : ∀ seen w, AxesLaw w → AxesLaw (settle (restartTravel seen (enterState .travelling w))) := fun seen w l =>
    settle_axesLaw (restartTravel_answers seen _) ((enterState_scheduled .travelling w).axesLaw l)
  unfold leavePause; dsimp only
  split
  · exact enterFeeding_axesLaw _ h
  · exact finalisationTest_axesLaw (enterFeeding_axesLaw _ h)
  · exact travels _ _ h
  · exact travels _ _ h
  · exact travels _ _ h
  · exact h

theorem removeReason_axesLaw (c : PauseReason) (h : AxesLaw s) : AxesLaw (removeReason c s) := by
  unfold removeReason; dsimp only; split
  · exact leavePause_axesLaw h
  · exact h

theorem exclusionFormed_axesLaw (before : HoldSet) (h : AxesLaw s) : AxesLaw (exclusionFormed before s) := by
  have woken : AxesLaw (wake (raise .maskChanged s)) := (wake_scheduled _).axesLaw h
  unfold exclusionFormed; dsimp only
  split
  · exact h
  · split
    · split
      · exact immediateEnd_axesLaw _ _ woken
      · exact woken
    · exact woken

/-! ### The dust monitor and the emergency stop -/

theorem headStops_axesLaw (h : AxesLaw s) : AxesLaw (headStops s) := by
  unfold headStops; split
  · exact exclusionFormed_axesLaw _ h
  · exact h

theorem formDustPlant_axesLaw (h : AxesLaw s) : AxesLaw (formDustPlant s) := by
  unfold formDustPlant; split
  · exact addReason_axesLaw _ h
  · exact removeReason_axesLaw _ h
  all_goals exact h

/-- What a channel's event hands on, one after the other (R153). -/
theorem handOn_axesLaw (c : Channel) (before : ChannelState) (level : Level) (h : AxesLaw s) : AxesLaw (handOn c before level s) := by
  have lockout : AxesLaw (if c = .head ∧ entersStop level (s.level c) then headStops s else s) := by
    split
    · exact headStops_axesLaw h
    · exact h
  unfold handOn; dsimp only
  generalize (if c = .head ∧ entersStop level (s.level c) then headStops s else s) = t at lockout ⊢
  have choked : AxesLaw (if c = .head ∧ crossesWarn level (s.level c) then settle (recomputeTravel true t) else t) := by
    split
    · exact settle_axesLaw (recomputeTravel_answers true t) lockout
    · exact lockout
  have formed := formDustPlant_axesLaw choked
  split <;> split <;> exact formed

/-- A pour that ends at once has its axes stopped, and nothing moves them after (R76). -/
theorem immediateEnd_axes {o : OrderId} (c : ImmediateCause) (k : After) (p : s.pourOrder = some o) :
    (immediateEnd c k s).axes = s.axes.map (AxisRec.halt s.now) := by
  have committed : ∀ w, (commitAmendments w).axes = w.axes := fun w => by
    unfold commitAmendments; dsimp only; split
    · obtain ⟨_, _, _, e⟩ := wake_scheduled { w with holds := tabulate fun h => (w.hold h).commit, ship := w.ship.commit }
      rw [e]
    · rfl
  obtain ⟨_, _, _, e⟩ := recordImmediate_ends o c (endTravel (stopAxes s))
  simp only [immediateEnd, p]
  obtain ⟨_, _, _, f⟩ := afterImmediate_scheduled k
    (commitAmendments (clearPour (recordImmediate o c (endTravel (stopAxes s)))))
  rw [f]
  dsimp only
  rw [committed, clearPour, e]
  rfl

/-- An emergency stop leaves no axis MOVING, whatever moved before it (R79). -/
theorem emergencyStop_axesLaw (h : AxesLaw s) : AxesLaw (emergencyStop { s with inputs.eStop := true }) := by
  have k := haltWith_kept .yield .estop { s with inputs.eStop := true }
  have weak : ∀ a, ((haltWith .yield .estop { s with inputs.eStop := true }).axis a).Law s.inReset false := fun a => by
    unfold haltWith
    split
    · next e =>
      obtain ⟨o, p⟩ := Option.isSome_iff_exists.mp e
      rw [State.axis, immediateEnd_axes .yield (.halt .estop) p, PerAxis.get_map]
      exact AxisRec.halt_law _ (h a).released
    · obtain ⟨_, _, _, e⟩ := raiseHalt_scheduled .estop { s with inputs.eStop := true }
      rw [e]
      exact (h a).released
  intro a
  simp only [State.axis, emergencyStop, stopAxes, PerAxis.get_map, k.inReset, k.inputs]
  exact AxisRec.halt_law _ (weak a)

end Sys2Proof.Machine
end

section
/-! The law of the pauses (R67 to R70, R96 to R101, R157) in three parts: the authority, the DUST_PLANT condition, and what each state of
the scheduler asks of the pour and of the travel (`PauseShape`); and the last part through the operations that begin, feed,
pause and end a pour. -/

set_option Elab.async false

namespace Sys2Proof.Machine

variable {s t : State}

/-! ### The parts of the law -/

/-- MANUAL stands in the pause-reason set exactly while the authority is MANUAL (R101). -/
def AuthorityAgrees (s : State) : Prop := s.pour.reasons.manual = s.spout.manual

/-- Out of reset, DUST_PLANT stands in the pause-reason set exactly while a channel other than HEAD is at STOP (R67, R157). -/
def PlantAgrees (s : State) : Prop :=
  s.inReset = false → (s.pour.reasons.dust = true ↔ ∃ c, c ≠ .head ∧ s.level c = .stop)

/-- What the state of the scheduler asks of the pause-reason set, of the authority and of the travel (R68 to R70, R96 to R99, R101). -/
structure PauseShape (s : State) : Prop where
  onWay : s.sched.state = .travelling ∨ s.sched.state = .pouring → s.pour.reasons = ⟨false, false, false, false⟩
  paused : s.sched.state = .paused → s.pour.reasons ≠ ⟨false, false, false, false⟩ ∧ s.pour.returnState.isSome = true
  draining : s.sched.state = .draining → s.spout.manual = false
  phase : s.spout.cond.isSome = true ↔ s.spout.phase ≠ .none
  travels : s.spout.cond = some .inProgress ∨ s.spout.cond = some .clearanceWait → s.sched.state = .travelling

theorem pauseLaw_iff (s : State) : PauseLaw s ↔ AuthorityAgrees s ∧ PlantAgrees s ∧ PauseShape s :=
  ⟨fun ⟨manual, dust, onWay, paused, draining, phase, travels⟩ => ⟨manual, dust, onWay, paused, draining, phase, travels⟩,
    fun ⟨manual, dust, onWay, paused, draining, phase, travels⟩ => ⟨manual, dust, onWay, paused, draining, phase, travels⟩⟩

theorem Kept.authority (k : Kept s t) (h : AuthorityAgrees s) : AuthorityAgrees t := by
  rw [AuthorityAgrees, k.reasons, k.manual]; exact h

theorem Kept.level (k : Kept s t) (c : Channel) : t.level c = s.level c := by
  simp only [State.level, State.channel, k.dust, k.settings]

theorem Kept.plant (k : Kept s t) (h : PlantAgrees s) : PlantAgrees t := by
  simp only [PlantAgrees, k.inReset, k.reasons, k.level]; exact h

/-- An operation that leaves alone what `Kept` lists keeps the law where it keeps the shape. -/
theorem Kept.pauseLaw (k : Kept s t) (h : PauseLaw s) (shape : AuthorityAgrees s → PauseShape s → PauseShape t) : PauseLaw t := by
  obtain ⟨manual, dust, h⟩ := (pauseLaw_iff s).mp h
  exact (pauseLaw_iff t).mpr ⟨k.authority manual, k.plant dust, shape manual h⟩

theorem PauseShape.travelIdle (h : PauseShape s) (e : s.sched.state ≠ .travelling) : TravelIdle s :=
  ⟨h.phase, fun c => e (h.travels (.inl c)), fun c => e (h.travels (.inr c))⟩

/-- A spout record in no phase with no condition: no travel is in hand (R98). -/
theorem TravelIdle.of_none (phase : s.spout.phase = .none) (cond : s.spout.cond = none) : TravelIdle s :=
  ⟨by simp [phase, cond], by simp [cond], by simp [cond]⟩

/-- Outside the pour states the shape asks only that no travel is in progress. -/
theorem TravelIdle.shape (i : TravelIdle s) (e : s.sched.state.isPour = false) : PauseShape s where
  onWay := by rintro (k | k) <;> rw [k] at e <;> cases e
  paused k := by rw [k] at e; cases e
  draining k := by rw [k] at e; cases e
  phase := i.phase
  travels := by
    rintro (k | k)
    · exact absurd k i.going
    · exact absurd k i.waiting

theorem not_travelling_of_not_pour (e : s.sched.state.isPour = false) : s.sched.state ≠ .travelling := by
  intro k; rw [k] at e; cases e

/-- A state that agrees with another in everything the shape speaks of. -/
theorem PauseShape.congr (h : PauseShape s) (state : t.sched.state = s.sched.state := by rfl)
    (reasons : t.pour.reasons = s.pour.reasons := by rfl) (ret : t.pour.returnState = s.pour.returnState := by rfl)
    (spout : t.spout = s.spout := by rfl) : PauseShape t := by
  obtain ⟨onWay, paused, draining, phase, travels⟩ := h
  exact ⟨by rw [state, reasons]; exact onWay, by rw [state, reasons, ret]; exact paused, by rw [state, spout]; exact draining,
    by rw [spout]; exact phase, by rw [state, spout]; exact travels⟩

theorem TravelIdle.congr (i : TravelIdle s) (spout : t.spout = s.spout := by rfl) : TravelIdle t := by
  obtain ⟨phase, going, waiting⟩ := i
  exact ⟨by rw [spout]; exact phase, by rw [spout]; exact going, by rw [spout]; exact waiting⟩

theorem Scheduled.spout (f : Scheduled s t) : t.spout = s.spout := by obtain ⟨_, _, _, rfl⟩ := f; rfl
theorem Scheduled.pour (f : Scheduled s t) : t.pour = s.pour := by obtain ⟨_, _, _, rfl⟩ := f; rfl

/-- A transition of the scheduler between states that are no pour states. -/
theorem Scheduled.shape (f : Scheduled s t) (before : s.sched.state.isPour = false) (after : t.sched.state.isPour = false)
    (h : PauseShape s) : PauseShape t :=
  ((h.travelIdle (not_travelling_of_not_pour before)).congr f.spout).shape after

/-! ### Travel operations -/

/-- The travel condition stays present exactly in a phase (R96 to R99). -/
theorem TravelStep.phase (c : TravelStep s t) (h : s.spout.cond.isSome = true ↔ s.spout.phase ≠ .none) :
    t.spout.cond.isSome = true ↔ t.spout.phase ≠ .none := by
  cases c with
  | move => rw [moveAxis_spout]; exact h
  | stop | height => exact h
  | enter p _ n => exact ⟨fun _ => n, fun _ => rfl⟩
  | wait _ n => exact ⟨fun _ => n, fun _ => rfl⟩
  | complete => exact ⟨nofun, fun k => absurd rfl k⟩

theorem Travelled.phase (c : Travelled s t) (h : s.spout.cond.isSome = true ↔ s.spout.phase ≠ .none) :
    t.spout.cond.isSome = true ↔ t.spout.phase ≠ .none := by
  induction c with
  | refl => exact h
  | tail _ c ih => exact c.phase ih

theorem TravelStep.travels (c : TravelStep s t) : Travels s t := by
  cases c with
  | move => exact moveAxis_travels ..
  | _ => exact ⟨_, _, rfl⟩

theorem Travelled.travels (c : Travelled s t) : Travels s t := by
  induction c with
  | refl => exact .refl s
  | tail _ c ih => exact ih.trans c.travels

theorem TravelStep.kept (c : TravelStep s t) : Kept s t := by
  cases c with
  | move => exact moveAxis_kept ..
  | stop => exact stopTraverse_kept s
  | _ => exact Kept.of

theorem Travelled.kept (c : Travelled s t) : Kept s t := by
  induction c with
  | refl => exact .refl s
  | tail _ c ih => exact ih.trans c.kept

/-- In TRAVELLING a travel operation keeps the shape. -/
theorem Travelled.shape (c : Travelled s t) (e : s.sched.state = .travelling) (h : PauseShape s) : PauseShape t := by
  have phase := c.phase h.phase
  obtain ⟨axes, spout, rfl⟩ := c.travels
  exact ⟨h.onWay, h.paused, fun k => absurd (e.symm.trans k) nofun, phase, fun _ => e⟩

/-- A travel reported complete leaves no travel in hand. -/
theorem Answers.idle {r : State × Bool} (a : Answers s r) (d : r.2 = true) (h : PauseShape s) : TravelIdle r.1 :=
  .of_none (a.done d) <| Option.not_isSome_iff_eq_none.mp fun c => (a.chain.phase h.phase).mp c (a.done d)

theorem track_spout (s : State) : (track s).spout = s.spout := by
  unfold track; split
  · split
    · exact moveAxis_spout ..
    · rfl
  · rfl

theorem track_shape (h : PauseShape s) : PauseShape (track s) :=
  h.congr (state := by rw [(track_travels s).sched]) (reasons := (track_kept s).reasons)
    (ret := by obtain ⟨_, _, e⟩ := track_travels s; rw [e]) (spout := track_spout s)

/-! ### The end of a pour -/

/-- A pour is over: outside the pour states, with no travel in hand (R90, R98). -/
structure PourEnded (s : State) : Prop where
  rest : s.sched.state.isPour = false
  idle : TravelIdle s

theorem PourEnded.shape (h : PourEnded s) : PauseShape s := h.idle.shape h.rest

theorem walkOn_ended (i : TravelIdle s) : PourEnded (walkOn s) := ⟨walkOn_not_pour s, i.congr (walkOn_scheduled s).spout⟩

theorem afterImmediate_ended (k : After) (i : TravelIdle s) : PourEnded (afterImmediate k s) := by
  refine ⟨?_, i.congr (afterImmediate_scheduled k s).spout⟩
  unfold afterImmediate
  split
  · split
    · next v => rw [(raiseHalt_sched _ v).1]; rfl
    · exact walkOn_not_pour s
  · simp [stopSchedule, SchedState.isPour]
  · exact walkOn_not_pour s

theorem commitAmendments_spout (s : State) : (commitAmendments s).spout = s.spout := by
  unfold commitAmendments; dsimp only; split
  · exact (wake_scheduled _).spout
  · rfl

/-- What every end of a pour leaves of the spout record (R98). -/
theorem Ends.travelIdle {o : OrderId} {x : Order} (d : Ends o x (endTravel s) t) : TravelIdle (commitAmendments (clearPour t)) := by
  obtain ⟨_, _, _, rfl⟩ := d
  exact .of_none (by rw [commitAmendments_spout]; rfl) (by rw [commitAmendments_spout]; rfl)

theorem immediateEnd_ended {o : OrderId} (c : ImmediateCause) (k : After) (p : s.pourOrder = some o) :
    PourEnded (immediateEnd c k s) := by
  simp only [immediateEnd, p]
  exact afterImmediate_ended k (recordImmediate_ends o c _).travelIdle

theorem immediateEnd_shape (c : ImmediateCause) (k : After) (h : PauseShape s) : PauseShape (immediateEnd c k s) := by
  cases p : s.pourOrder with
  | none => simpa only [immediateEnd, p] using h
  | some o => exact (immediateEnd_ended c k p).shape

theorem goOn_idle (next : Option OrderId) (i : TravelIdle s) :
    TravelIdle (goOn s next).1 ∧ ((goOn s next).2 = none → PourEnded (goOn s next).1) := by
  have walks := walkOn_ended i
  unfold goOn; split
  · exact ⟨walks.idle, fun _ => walks⟩
  · split
    · exact ⟨i.congr, nofun⟩
    · exact ⟨walks.idle, fun _ => walks⟩

/-- A finalisation that hands on leaves no travel in hand; one that does not has ended the pour. -/
theorem finaliseStep_idle {o : OrderId} (c : EndCause) (p : s.pourOrder = some o) :
    TravelIdle (finaliseStep c s).1 ∧ ((finaliseStep c s).2 = none → PourEnded (finaliseStep c s).1) := by
  rw [finaliseStep_eq c p]
  exact goOn_idle _ (finishOrder_ends o c _).travelIdle

theorem finaliseStep_shape (c : EndCause) (h : PauseShape s) :
    ((finaliseStep c s).2 = none → PauseShape (finaliseStep c s).1) ∧
      ((finaliseStep c s).2 ≠ none → TravelIdle (finaliseStep c s).1) := by
  cases p : s.pourOrder with
  | none => simp only [finaliseStep, p]; exact ⟨fun _ => h, fun k => absurd rfl k⟩
  | some o => exact ⟨fun k => ((finaliseStep_idle c p).2 k).shape, fun _ => (finaliseStep_idle c p).1⟩

/-! ### Pausing, activation and feeding -/

theorem setRunLine_frame (s : State) : ∃ pour, setRunLine s = { s with pour := pour } ∧
    pour.reasons = s.pour.reasons ∧ pour.returnState = s.pour.returnState := by
  rw [setRunLine_lineSet]
  refine ⟨_, rfl, ?_⟩
  unfold Pour.lineSet
  split
  · split
    · exact ⟨rfl, rfl⟩
    · split <;> exact ⟨rfl, rfl⟩
  · exact ⟨rfl, rfl⟩

/-- The travel phase of a pour that pauses is abandoned, and stays a phase (R98). -/
theorem abandonTravel_idle (none_ : s.spout.phase = .none → s.spout.cond = none) : TravelIdle (abandonTravel s) := by
  unfold abandonTravel
  split
  · next e => exact .of_none e (none_ e)
  all_goals
    next e =>
    exact ⟨⟨fun _ => by dsimp only; rw [e]; nofun, fun _ => rfl⟩, nofun, nofun⟩

theorem enterPaused_shape (ret : ReturnState) (none_ : s.spout.phase = .none → s.spout.cond = none)
    (reasons : s.pour.reasons ≠ ⟨false, false, false, false⟩) : PauseShape (enterPaused ret s) := by
  have spout : (stopAxes (enterState .paused s)).spout = s.spout := (enterState_scheduled .paused s).spout
  have i := abandonTravel_idle (s := stopAxes (enterState .paused s)) (by rw [spout]; exact none_)
  obtain ⟨pour, line, same, -⟩ := setRunLine_frame (abandonTravel (stopAxes (enterState .paused s)))
  have state : (abandonTravel (stopAxes (enterState .paused s))).sched.state = .paused := by
    rw [((stopAxes_travels _).trans (abandonTravel_travels _)).sched, enterState_sched]
  have kept : pour.reasons = s.pour.reasons := same.trans
    ((enterState_kept .paused s).trans ((stopAxes_kept _).trans (abandonTravel_kept _))).reasons
  unfold enterPaused
  dsimp only
  rw [line]
  refine ⟨?_, fun _ => ⟨by rw [kept]; exact reasons, rfl⟩, fun e => absurd (state.symm.trans e) nofun, i.phase, ?_⟩
  · rintro (e | e) <;> exact absurd (state.symm.trans e) nofun
  · rintro (e | e)
    · exact absurd e i.going
    · exact absurd e i.waiting

theorem PauseShape.cond_none (h : PauseShape s) (e : s.spout.phase = .none) : s.spout.cond = none :=
  Option.not_isSome_iff_eq_none.mp fun c => h.phase.mp c e

/-- An activation from a state with no travel in hand (R52, R61, R90); where the travel completed at once the pour is TRAVELLING with
no pause reason. -/
theorem activateStep_shape (o : OrderId) (i : TravelIdle s) :
    PauseShape (activateStep o s).1 ∧
      ((activateStep o s).2 = true → (activateStep o s).1.sched.state = .travelling ∧ TravelIdle (activateStep o s).1) := by
  cases e : (s.order o).hold with
  | none =>
    simp only [activateStep, e]
    exact ⟨(walkOn_ended i).shape, nofun⟩
  | some k =>
    have begun : TravelIdle (pourBegun o k s) := i.congr (enterState_scheduled _ _).spout
    have state : (pourBegun o k s).sched.state = .travelling := by simp [pourBegun]
    rw [activateStep_eq e]
    split
    · have order : (pourBegun o k s).pourOrder = some o := by
        simp [State.pourOrder, pourBegun, SchedState.isPour]
      exact ⟨(immediateEnd_ended _ _ order).shape, nofun⟩
    · have f := writeSpot_travels k (s.order o).spot (pourBegun o k s)
      have spotted : (writeSpot k (s.order o).spot (pourBegun o k s)).sched.state = .travelling := by rw [f.sched]; exact state
      split
      · next empty =>
        have shape : PauseShape (writeSpot k (s.order o).spot (pourBegun o k s)) := by
          refine ⟨fun _ => (ReasonSet.isEmpty_iff _).mp empty, fun k => ?_, fun k => ?_, ?_, fun _ => spotted⟩
          · rw [spotted] at k; cases k
          · rw [spotted] at k; cases k
          · unfold writeSpot; split <;> exact begun.phase
        have a := beginRaise_answers (writeSpot k (s.order o).spot (pourBegun o k s))
        exact ⟨a.chain.shape spotted shape, fun d => ⟨by rw [a.chain.travels.sched]; exact spotted, a.idle d shape⟩⟩
      · next stands =>
        exact ⟨enterPaused_shape _ nofun (mt (ReasonSet.isEmpty_iff _).mpr stands), nofun⟩

theorem enterFeeding_shape {st : SchedState} (i : TravelIdle s)
    (h : (st = .pouring ∧ s.pour.reasons = ⟨false, false, false, false⟩) ∨ (st = .draining ∧ s.spout.manual = false)) :
    PauseShape (enterFeeding st s) := by
  obtain ⟨pour, line, same, -⟩ := setRunLine_frame (enterState st s)
  have f := enterState_scheduled st s
  have j : TravelIdle (enterState st s) := i.congr f.spout
  refine track_shape ?_
  rw [line]
  have state : ({ enterState st s with pour := pour } : State).sched.state = st := by simp
  refine ⟨fun e => ?_, fun e => ?_, fun e => ?_, j.phase, ?_⟩
  · rcases h with ⟨_, r⟩ | ⟨rfl, _⟩
    · exact same.trans ((congrArg Pour.reasons f.pour).trans r)
    · rw [state] at e; rcases e with e | e <;> cases e
  · rw [state] at e; rcases h with ⟨rfl, _⟩ | ⟨rfl, _⟩ <;> cases e
  · rcases h with ⟨rfl, _⟩ | ⟨_, m⟩
    · rw [state] at e; cases e
    · exact (congrArg Spout.manual f.spout).trans m
  · rintro (e | e)
    · exact absurd e j.going
    · exact absurd e j.waiting

/-- An activation with all that the continue rule hands on within the event (R52, R54, R55). -/
theorem runActivation_shape (n : Nat) (o : OrderId) (i : TravelIdle s) : PauseShape (runActivation n o s) := by
  induction n generalizing o s with
  | zero => exact (walkOn_ended i).shape
  | succ n ih =>
    obtain ⟨a, completes⟩ := activateStep_shape o i
    unfold runActivation
    split
    · next t e => rw [e] at a; exact a
    · next t e =>
      rw [e] at a completes
      split
      · obtain ⟨walks, handsOn⟩ := finaliseStep_shape .complete a
        split
        · next u m f => rw [f] at handsOn; exact ih m (handsOn nofun)
        · next u f => rw [f] at walks; exact walks rfl
      · obtain ⟨state, idle⟩ := completes rfl
        exact enterFeeding_shape idle (.inl ⟨rfl, a.onWay (.inl state)⟩)

theorem activate_shape (o : OrderId) (i : TravelIdle s) : PauseShape (activate o s) := runActivation_shape 65 o i

theorem finalise_shape (c : EndCause) (h : PauseShape s) : PauseShape (finalise c s) := by
  obtain ⟨walks, handsOn⟩ := finaliseStep_shape c h
  unfold finalise
  split
  · next t n e => rw [e] at handsOn; exact activate_shape n (handsOn nofun)
  · next t e => rw [e] at walks; exact walks rfl

theorem finalisationTest_shape (h : PauseShape s) : PauseShape (finalisationTest s) := by
  unfold finalisationTest; split
  · exact finalise_shape _ h
  · exact h

/-- Without a pause reason the authority is AUTO (R101). -/
theorem AuthorityAgrees.auto (a : AuthorityAgrees s) (e : s.pour.reasons = ⟨false, false, false, false⟩) :
    s.spout.manual = false := by
  rw [← show _ = s.spout.manual from a, e]

/-- A travel reported complete from TRAVELLING (R62). -/
theorem travelComplete_shape (a : AuthorityAgrees s) (h : PauseShape s) (e : s.sched.state = .travelling) (i : TravelIdle s) :
    PauseShape (travelComplete s) := by
  have reasons := h.onWay (.inl e)
  unfold travelComplete
  split
  · exact h
  · split
    · exact finalise_shape _ h
    · split
      · exact enterFeeding_shape i (.inl ⟨rfl, reasons⟩)
      · exact finalisationTest_shape (enterFeeding_shape i (.inr ⟨rfl, a.auto reasons⟩))

theorem settle_shape {r : State × Bool} (c : Answers s r) (a : AuthorityAgrees s) (h : PauseShape s)
    (e : s.sched.state = .travelling) : PauseShape (settle r) := by
  have shape := c.chain.shape e h
  unfold settle; split
  · next d =>
    exact travelComplete_shape (c.chain.kept.authority a) shape (by rw [c.chain.travels.sched]; exact e) (c.idle d h)
  · exact shape

/-- What a recompute and an arrival do to the travel in hand, in TRAVELLING; elsewhere none is in hand (R93 to R97). -/
theorem recomputeTravel_shape (b : Bool) (a : AuthorityAgrees s) (h : PauseShape s) :
    PauseShape (settle (recomputeTravel b s)) := by
  by_cases e : s.sched.state = .travelling
  · exact settle_shape (recomputeTravel_answers b s) a h e
  · rw [recomputeTravel_idle b (h.travelIdle e)]
    exact track_shape h

theorem spoutArrived_shape (a : AuthorityAgrees s) (h : PauseShape s) : PauseShape (settle (spoutArrived s)) := by
  by_cases e : s.sched.state = .travelling
  · exact settle_shape (spoutArrived_answers s) a h e
  · rw [spoutArrived_idle (h.travelIdle e)]
    exact h

theorem traverseArrived_shape (a : AuthorityAgrees s) (h : PauseShape s) : PauseShape (settle (traverseArrived s)) := by
  by_cases e : s.sched.state = .travelling
  · exact settle_shape (traverseArrived_answers s) a h e
  · rw [traverseArrived_idle (.inr (h.travelIdle e).going)]
    exact h

theorem setRunLine_shape (h : PauseShape s) : PauseShape (setRunLine s) := by
  obtain ⟨pour, e, reasons, ret⟩ := setRunLine_frame s
  rw [e]
  exact h.congr (reasons := reasons) (ret := ret)

/-! ### Orderly ends and pause reasons -/

theorem orderlyEnd_shape (c : EndCause) (a : AuthorityAgrees s) (h : PauseShape s) : PauseShape (orderlyEnd c s) := by
  have records : ∀ x, PauseShape { s with pour.endCause := x } := fun _ => h.congr
  unfold orderlyEnd; dsimp only
  split
  · next e =>
    have f := enterState_scheduled .draining { s with pour.endCause := some (combineCause s.pour.endCause c) }
    have i := h.travelIdle (by rw [e]; nofun)
    have state : (enterState .draining { s with pour.endCause := some (combineCause s.pour.endCause c) }).sched.state = .draining := by
      simp
    have j : TravelIdle (enterState .draining { s with pour.endCause := some (combineCause s.pour.endCause c) }) := i.congr f.spout
    refine finalisationTest_shape (setRunLine_shape ⟨?_, ?_, fun _ => ?_, j.phase, ?_⟩)
    · rintro (k | k) <;> exact absurd (state.symm.trans k) nofun
    · exact fun k => absurd (state.symm.trans k) nofun
    · rw [f.spout]; exact a.auto (h.onWay (.inr e))
    · rintro (k | k)
      · exact absurd k j.going
      · exact absurd k j.waiting
  · split
    · exact finalise_shape _ h
    · exact records _
  · split
    · exact finalise_shape _ h
    · exact records _
  · split
    · exact finalise_shape _ h
    · exact ⟨h.onWay, fun e => ⟨(h.paused e).1, rfl⟩, h.draining, h.phase, h.travels⟩
  · exact records _
  · exact records _
  · exact h

theorem ReasonSet.put_true_ne (r : ReasonSet) (c : PauseReason) : r.put c true ≠ ⟨false, false, false, false⟩ := by
  cases c <;> simp [ReasonSet.put]

/-- A reason added keeps the shape (R65 to R69). -/
theorem addReason_shape (c : PauseReason) (h : PauseShape s) : PauseShape (addReason c s) := by
  have joins : s.sched.state ≠ .travelling → s.sched.state ≠ .pouring → ∀ seen,
      PauseShape { s with pour.reasons := s.pour.reasons.put c true, pour.manualSeen := seen } := fun n m _ =>
    ⟨fun e => absurd e (by rintro (e | e) <;> [exact n e; exact m e]),
      fun e => ⟨ReasonSet.put_true_ne _ _, (h.paused e).2⟩, h.draining, h.phase, h.travels⟩
  have empty : s.pour.reasons = ⟨false, false, false, false⟩ → s.pour.reasons.isEmpty = true := (ReasonSet.isEmpty_iff _).mpr
  unfold addReason; dsimp only
  split
  · next e =>
    rw [if_pos (empty (h.onWay (.inl e)))]
    exact enterPaused_shape _ h.cond_none (ReasonSet.put_true_ne _ _)
  · next e =>
    rw [if_pos (empty (h.onWay (.inr e)))]
    exact enterPaused_shape _ h.cond_none (ReasonSet.put_true_ne _ _)
  · next e =>
    have n : s.sched.state ≠ .travelling ∧ s.sched.state ≠ .pouring := by rw [e]; exact ⟨nofun, nofun⟩
    split
    · exact joins n.1 n.2 true
    · exact joins n.1 n.2 _
  all_goals
    next e =>
    exact joins (by rw [e]; nofun) (by rw [e]; nofun) _

/-- A paused pour whose set of reasons has become empty goes on (R70, R99). -/
theorem leavePause_shape (a : AuthorityAgrees s) (ret : s.pour.returnState.isSome = true)
    (reasons : s.pour.reasons = ⟨false, false, false, false⟩) (i : TravelIdle s) : PauseShape (leavePause s) := by
  have travels : ∀ seen, PauseShape (settle (restartTravel seen
      (enterState .travelling { s with pour.returnState := none, pour.manualSeen := false }))) := fun seen => by
    have k := enterState_kept .travelling { s with pour.returnState := none, pour.manualSeen := false }
    have spout := (enterState_scheduled .travelling { s with pour.returnState := none, pour.manualSeen := false }).spout
    have state : (enterState .travelling { s with pour.returnState := none, pour.manualSeen := false }).sched.state = .travelling := by
      simp
    exact settle_shape (restartTravel_answers ..) (k.authority a)
      ⟨fun _ => k.reasons.trans reasons, fun e => absurd (state.symm.trans e) nofun, fun e => absurd (state.symm.trans e) nofun,
        by rw [spout]; exact i.phase, fun _ => state⟩ state
  unfold leavePause; dsimp only
  split
  · exact enterFeeding_shape i.congr (.inl ⟨rfl, reasons⟩)
  · exact finalisationTest_shape (enterFeeding_shape i.congr (.inr ⟨rfl, a.auto reasons⟩))
  · exact travels _
  · exact travels _
  · exact travels _
  · next e => rw [e] at ret; cases ret

theorem ReasonSet.put_false_empty (c : PauseReason) :
    (⟨false, false, false, false⟩ : ReasonSet).put c false = ⟨false, false, false, false⟩ := by cases c <;> rfl

/-- A reason removed keeps the shape (R65 to R70). -/
theorem removeReason_shape (c : PauseReason) (a : AuthorityAgrees { s with pour.reasons := s.pour.reasons.put c false })
    (h : PauseShape s) : PauseShape (removeReason c s) := by
  unfold removeReason; dsimp only; split
  · next e =>
    obtain ⟨state, -, empty⟩ := e
    exact leavePause_shape a (h.paused state).2 ((ReasonSet.isEmpty_iff _).mp empty) (h.travelIdle (by rw [state]; nofun)).congr
  · next n =>
    refine ⟨fun e => ?_, fun e => ⟨fun empty => ?_, (h.paused e).2⟩, h.draining, h.phase, h.travels⟩
    · dsimp only
      rw [h.onWay e, ReasonSet.put_false_empty]
    · have stands : s.pour.reasons.isEmpty = false := by
        rw [Bool.eq_false_iff, Ne, ReasonSet.isEmpty_iff]; exact (h.paused e).1
      exact n ⟨e, stands, (ReasonSet.isEmpty_iff _).mpr empty⟩

/-- A change of the exclusion set keeps the shape (R20, R21). -/
theorem wake_shape (h : PauseShape s) : PauseShape (wake s) := by
  cases e : s.sched.state.isPour with
  | true => rw [wake_pour e]; exact h
  | false => exact (wake_scheduled s).shape e ((wake_isPour s).trans e) h

theorem exclusionFormed_shape (before : HoldSet) (h : PauseShape s) : PauseShape (exclusionFormed before s) := by
  have woken : PauseShape (wake (raise .maskChanged s)) := wake_shape h.congr
  unfold exclusionFormed; dsimp only
  split
  · exact h
  · split
    · split
      · exact immediateEnd_shape _ _ woken
      · exact woken
    · exact woken

/-! ### The dust monitor (R153 to R157) -/

theorem headStops_shape (h : PauseShape s) : PauseShape (headStops s) := by
  unfold headStops; split
  · exact exclusionFormed_shape _ h.congr
  · exact h.congr

/-- The lockout that an entry of HEAD into STOP places is in the hold table; beside it, nothing the list names changes. -/
theorem headStops_kept (s : State) : ∃ holds, Kept { s with holds := holds } (headStops s) := by
  unfold headStops; split
  · exact ⟨_, exclusionFormed_kept _ _⟩
  · exact ⟨_, Kept.refl _⟩

theorem formDustPlant_shape (a : AuthorityAgrees s) (h : PauseShape s) : PauseShape (formDustPlant s) := by
  unfold formDustPlant; split
  · exact addReason_shape _ h
  · exact removeReason_shape _ a h
  all_goals exact h

/-- After it is formed anew DUST_PLANT stands exactly under its condition (R157). -/
theorem formDustPlant_kept (s : State) : Kept { s with pour.reasons.dust := s.dustPlant } (formDustPlant s) := by
  unfold formDustPlant
  cases d : s.dustPlant <;> cases r : s.pour.reasons.dust <;> dsimp only
  · exact reasonsDust_same r ▸ Kept.refl s
  · exact removeReason_kept .dust s
  · exact addReason_kept .dust s
  · exact reasonsDust_same r ▸ Kept.refl s

/-- What a channel's event hands on brings the law about, whatever the levels were before (R153, R157). -/
theorem handOn_pauseLaw (c : Channel) (before : ChannelState) (level : Level) (a : AuthorityAgrees s) (h : PauseShape s) :
    PauseLaw (handOn c before level s) := by
  have lockout : AuthorityAgrees (if c = .head ∧ entersStop level (s.level c) then headStops s else s) ∧
      PauseShape (if c = .head ∧ entersStop level (s.level c) then headStops s else s) := by
    split
    · obtain ⟨_, k⟩ := headStops_kept s
      exact ⟨k.authority a, headStops_shape h⟩
    · exact ⟨a, h⟩
  unfold handOn; dsimp only
  generalize (if c = .head ∧ entersStop level (s.level c) then headStops s else s) = t at lockout ⊢
  have choked : AuthorityAgrees (if c = .head ∧ crossesWarn level (s.level c) then settle (recomputeTravel true t) else t) ∧
      PauseShape (if c = .head ∧ crossesWarn level (s.level c) then settle (recomputeTravel true t) else t) := by
    split
    · exact ⟨(settle_kept _ (recomputeTravel_kept true t)).authority lockout.1, recomputeTravel_shape true lockout.1 lockout.2⟩
    · exact lockout
  generalize (if c = .head ∧ crossesWarn level (s.level c) then settle (recomputeTravel true t) else t) = u at choked ⊢
  have k := formDustPlant_kept u
  have law : PauseLaw (formDustPlant u) :=
    (pauseLaw_iff _).mpr ⟨k.authority choked.1, fun _ => by
      rw [k.reasons]
      simp only [k.level]
      exact dustPlant_iff u, formDustPlant_shape choked.1 choked.2⟩
  split <;> split <;> exact law

end Sys2Proof.Machine
end

section
/-! Every command is a chain of a few effects. `Effect` lists them: what the blocks share (the ends of a pour, travel, pause reasons, the
schedule, the axes, dust), what the session, the emergency stop and the resets do, and `Beside`, which is all that concerns neither the
axes nor the pauses. A law that each effect keeps is kept by every step. -/

set_option Elab.async false

namespace Sys2Proof.Machine

variable {A : Prop} {s t u : State}

/-! ### The effects -/

/-- Nothing has changed that moves or pauses a pour: reset, the emergency stop input, the state of the scheduler, the pause reasons and
the return state, the spout and the axes. The levels of the dust channels may have. -/
structure Unmoved (s t : State) : Prop where
  inReset : t.inReset = s.inReset := by rfl
  eStop : t.inputs.eStop = s.inputs.eStop := by rfl
  state : t.sched.state = s.sched.state := by rfl
  reasons : t.pour.reasons = s.pour.reasons := by rfl
  returnState : t.pour.returnState = s.pour.returnState := by rfl
  spout : t.spout = s.spout := by rfl
  axes : t.axes = s.axes := by rfl

/-- Nothing has changed that the pauses or the axes depend on. -/
structure Beside (s t : State) : Prop extends Unmoved s t where
  level : ∀ c, t.level c = s.level c := by exact fun _ => rfl

theorem Beside.refl (s : State) : Beside s s := {}

theorem Beside.trans (a : Beside s t) (b : Beside t u) : Beside s u where
  inReset := b.inReset.trans a.inReset
  eStop := b.eStop.trans a.eStop
  state := b.state.trans a.state
  reasons := b.reasons.trans a.reasons
  returnState := b.returnState.trans a.returnState
  spout := b.spout.trans a.spout
  axes := b.axes.trans a.axes
  level c := (b.level c).trans (a.level c)

/-- One effect of a command. `A` is what is known where the command finds the law of the active order to hold (R25, R41): it is asked for
where an effect rests on no pour being in progress. -/
inductive Effect (A : Prop) : State → State → Prop
  | beside {s t : State} (h : Beside s t) : Effect A s t
  | writesAxis {s : State} (a : Axis) (r : AxisRec)
      (h : (s.axis a).Law s.inReset s.inputs.eStop → r.Law s.inReset s.inputs.eStop) : Effect A s (s.setAxis a r)
  | stopsAxes (s : State) : Effect A s (stopAxes s)
  | schedules {s t : State} (f : Scheduled s t) (before : A → s.sched.state.isPour = false)
      (after : t.sched.state.isPour = false) : Effect A s t
  | activates (o : OrderId) {s : State} (h : s.sched.state = .seeking) : Effect A s (activate o s)
  | recomputes (s : State) : Effect A s (recompute s)
  | traverseArrives (s : State) : Effect A s (settle (traverseArrived s))
  | spoutArrives (s : State) : Effect A s (settle (spoutArrived s))
  | endsAtOnce (c : ImmediateCause) (k : After) (s : State) : Effect A s (immediateEnd c k s)
  | endsOrderly (c : EndCause) (s : State) : Effect A s (orderlyEnd c s)
  | testsFinalisation (s : State) : Effect A s (finalisationTest s)
  | addsReason {c : PauseReason} (s : State) (h : c = .cab ∨ c = .ship) : Effect A s (addReason c s)
  | removesReason {c : PauseReason} (s : State) (h : c = .cab ∨ c = .ship) : Effect A s (removeReason c s)
  | takesManual {s : State} (n : s.sched.state ≠ .draining) : Effect A s (addReason .manual { s with spout.manual := true })
  | releasesManual (s : State) : Effect A s (removeReason .manual { stopAxes s with spout.manual := false })
  | handsOn (c : Channel) (before : ChannelState) (level : Level) {s t : State} (h : Unmoved s t) :
      Effect A s (handOn c before level t)
  | stopsAll {s : State} (h : A → ActiveLaw s) : Effect A s (emergencyStop { s with inputs.eStop := true })
  | notesStop {s : State} (h : s.inReset = true) : Effect A s { s with inputs.eStop := true }
  | releasesStop (s : State) : Effect A s { s with inputs.eStop := false }
  | opensSession (vessel : BitVec 16) {s : State} (before : A → s.sched.state.isPour = false) : Effect A s (newSession vessel s)
  | resets (s : State) : Effect A s { holdOutputs s with inReset := true }
  | startsUp (s : State) (now : Time) (i : Inputs) (v : Settings) (st : Store) (q : List Instr) :
      Effect A s (State.fresh now i v st q)

/-- A chain of effects. -/
def Effects (A : Prop) : State → State → Prop := Relation.ReflTransGen (Effect A)

theorem Effects.refl (s : State) : Effects A s s := Relation.ReflTransGen.refl

theorem Effects.trans (a : Effects A s t) (b : Effects A t u) : Effects A s u := Relation.ReflTransGen.trans a b

theorem Effect.chain (h : Effect A s t) : Effects A s t := Relation.ReflTransGen.single h

theorem Beside.effects (h : Beside s t) : Effects A s t := (Effect.beside h).chain

/-- A law that every effect keeps is kept by a chain of them. -/
theorem Effects.keep {P : State → Prop} (one : ∀ {s t}, Effect A s t → P s → P t) (h : Effects A s t) (p : P s) : P t := by
  induction h with
  | refl => exact p
  | tail _ e ih => exact one e ih

/-! ### The operations that blocks share -/

theorem raise_effects (f : EventFlag) (s : State) : Effects A s (raise f s) := Beside.effects {}

theorem wake_effects (s : State) : Effects A s (wake s) := by
  cases e : s.sched.state.isPour with
  | true => rw [wake_pour e]; exact .refl s
  | false => exact (Effect.schedules (wake_scheduled s) (fun _ => e) ((wake_isPour s).trans e)).chain

theorem boundaryTest_effects (s : State) : Effects A s (boundaryTest s) := by
  have commits : Effects A s { s with holds := tabulate fun h => (s.hold h).commit, ship := s.ship.commit } := Beside.effects {}
  unfold boundaryTest commitAmendments; dsimp only
  split
  · exact .refl s
  · split
    · exact commits.trans (wake_effects _)
    · exact commits

theorem exclusionFormed_effects (before : HoldSet) (s : State) : Effects A s (exclusionFormed before s) := by
  have woken : Effects A s (wake (raise .maskChanged s)) := (raise_effects _ s).trans (wake_effects _)
  unfold exclusionFormed; dsimp only
  split
  · exact .refl s
  · split
    · split
      · exact woken.trans (Effect.endsAtOnce ..).chain
      · exact woken
    · exact woken

/-- A halt cause that arises outside a pour (R57). -/
theorem raiseHalt_effects (c : HaltCause) (before : A → s.sched.state.isPour = false) : Effects A s (raiseHalt c s) := by
  cases v : s.vesselOpen with
  | false => rw [raiseHalt_closed c v]; exact .refl s
  | true => exact (Effect.schedules (raiseHalt_scheduled c s) before (by rw [(raiseHalt_sched c v).1]; rfl)).chain

theorem not_pour_of_no_order (h : ActiveLaw s) (e : ¬s.pourOrder.isSome = true) : s.sched.state.isPour = false := by
  rw [← pourOrder_isSome_iff h]; simpa using e

theorem haltWith_effects (c : ImmediateCause) (k : HaltCause) (h : A → ActiveLaw s) : Effects A s (haltWith c k s) := by
  unfold haltWith
  split
  · exact (Effect.endsAtOnce ..).chain
  · next e => exact raiseHalt_effects k fun a => not_pour_of_no_order (h a) e

theorem failAxis_effects (a : Axis) (why : AxisReason) (s : State) : Effects A s (failAxis a why s) := by
  unfold failAxis
  split
  · exact .refl s
  · exact (Effect.writesAxis a _ fun _ => AxisRec.fail_law why _).chain.trans
      ((raise_effects ..).trans (Effect.endsAtOnce ..).chain)

theorem setOrder_beside (o : OrderId) (x : Order) (s : State) : Beside s (s.setOrder o x) := {}
theorem setHold_beside (h : HoldId) (x : Hold) (s : State) : Beside s (s.setHold h x) := {}
theorem setPort_beside (p : Port) (x : PortRec) (s : State) : Beside s (s.setPort p x) := {}
theorem reachTime_beside (d : Time) (s : State) : Beside s (reachTime d s) := {}

theorem drainTest_beside (n : Nat) (s : State) : Beside s (drainTest n s) := by
  unfold drainTest; dsimp only
  split
  · exact .refl s
  · split
    · split <;> exact {}
    · exact .refl s

/-! ### The checks of a request -/

theorem whileOpen_effects {α : Type} {field : Option α} {act : α → Taken}
    (h : ∀ x, s.vesselOpen = true → Effects A s (act x).state) : Effects A s (whileOpen field s act).state := by
  unfold whileOpen
  split
  · exact .refl s
  · next x =>
    split
    · next v => exact h x v
    · exact .refl s

theorem onDeclared_effects {b : Byte} {act : HoldId → Taken} (h : ∀ x, Effects A s (act x).state) :
    Effects A s (onDeclared b s act).state :=
  whileOpen_effects fun x _ => by
    split
    · exact h x
    · exact .refl s

theorem onOrder_effects {b : Byte} {act : OrderId → Taken} (h : ∀ x, Effects A s (act x).state) :
    Effects A s (onOrder b s act).state :=
  whileOpen_effects fun x _ => by
    split
    · exact .refl s
    · exact h x

/-! ### The hold table (chapter 1) -/

theorem takeDeclareHold_effects (b : Byte) (g : HoldGeom) (s : State) : Effects A s (takeDeclareHold b g s).state := by
  refine whileOpen_effects fun h _ => ?_
  split
  · exact .refl s
  · split
    · exact (setHold_beside h _ s).effects.trans (boundaryTest_effects _)
    · exact (setHold_beside h _ s).effects.trans (Effect.recomputes _).chain

theorem takeSetShipOffset_effects (x : BitVec 16) (b : Byte) (s : State) : Effects A s (takeSetShipOffset x b s).state :=
  whileOpen_effects fun hd _ => (Beside.effects (t := { s with
    ship.staged := some (clampInt (-20000) 20000 x.toInt, hd) }) {}).trans (boundaryTest_effects _)

theorem heightsChanged_effects (s : State) : Effects A s (heightsChanged s) := by
  unfold heightsChanged
  split
  · exact (wake_effects s).trans (Effect.recomputes _).chain
  · exact (Effect.recomputes s).chain

theorem levelArrived_effects (v : BitVec 32) (s : State) : Effects A s (levelArrived v s) := by
  unfold levelArrived
  split
  · exact (Beside.effects (t := { s with river := ⟨v.toInt.toNat, s.now, false⟩ }) {}).trans (heightsChanged_effects _)
  · exact raise_effects _ s

theorem levelGoesStale_effects (s : State) : Effects A s (levelGoesStale s) := by
  unfold levelGoesStale
  split
  · exact .refl s
  · exact Beside.effects {}

theorem takeSetHoldLimit_effects (b : Byte) (x : BitVec 32) (s : State) : Effects A s (takeSetHoldLimit b x s).state := by
  refine onDeclared_effects fun h => ?_
  have a : Effects A s (wake (s.setHold h { s.hold h with limit := clampNat 0 500000000 x.toNat })) :=
    (setHold_beside h _ s).effects.trans (wake_effects _)
  dsimp only
  split
  · exact a.trans (Effect.endsOrderly ..).chain
  · exact a

theorem takeCloseHatch_effects (b : Byte) (s : State) : Effects A s (takeCloseHatch b s).state :=
  onDeclared_effects fun h => (setHold_beside h _ s).effects.trans (exclusionFormed_effects ..)

theorem takeOpenHatch_effects (b : Byte) (s : State) : Effects A s (takeOpenHatch b s).state := by
  refine onDeclared_effects fun h => ?_
  have a : Effects A s (s.setHold h { s.hold h with hatchOpen := true }) := (setHold_beside h _ s).effects
  dsimp only
  split
  · exact .refl s
  · split
    · exact a.trans (wake_effects _)
    · exact a.trans (exclusionFormed_effects ..)

theorem writeFreeboards_beside (draft : List (HoldId × Nat)) (s : State) : Beside s (writeFreeboards draft s) := by
  induction draft generalizing s with
  | nil => exact .refl s
  | cons e rest ih => exact (setHold_beside e.1 { s.hold e.1 with freeboard := some e.2 } s).trans (ih _)

theorem takeReportDraft_effects (es : List (Byte × BitVec 16)) (s : State) : Effects A s (takeReportDraft es s).state := by
  refine whileOpen_effects fun draft _ => ?_
  split
  · have reported : Beside (writeFreeboards draft s) { writeFreeboards draft s with ship.loadedAtReport := s.totalLoaded } := {}
    exact ((writeFreeboards_beside draft s).trans reported).effects.trans (heightsChanged_effects _)
  · exact .refl s

theorem takeSetTpc_effects (x : BitVec 32) (s : State) : Effects A s (takeSetTpc x s).state :=
  whileOpen_effects fun n _ => (Beside.effects (t := { s with
    ship.tpc := if n = 0 then none else some (clampNat 1000 200000 n) }) {}).trans (heightsChanged_effects _)

theorem setSuspension_beside (x : Suspension) (s : State) : Beside s { s with suspension := x } := {}

theorem takeSuspend_effects (bs : List Byte) (s : State) : Effects A s (takeSuspend bs s).state := by
  refine whileOpen_effects fun hs _ => ?_
  split
  · exact .refl s
  · exact (setSuspension_beside _ s).effects.trans (exclusionFormed_effects ..)

theorem takeResume_effects (s : State) : Effects A s (takeResume s).state := by
  refine whileOpen_effects fun _ _ => ?_
  split
  · exact .refl s
  · exact (setSuspension_beside _ s).effects.trans (exclusionFormed_effects ..)

/-! ### Orders and passes (chapter 2) -/

theorem takeAddOrder_effects (f : Option OrderFields) (s : State) : Effects A s (takeAddOrder f s).state := by
  refine whileOpen_effects fun x _ => ?_
  split
  · exact .refl s
  · split
    · exact .refl s
    · split
      · exact .refl s
      · split
        · exact .refl s
        · next o _ =>
          have queued : Beside s ((s.setOrder o x.order).setQueue x.hold (s.queue x.hold ++ [o])) := {}
          exact queued.effects.trans (wake_effects _)

theorem Ends.beside {o : OrderId} {x : Order} (d : Ends o x s t) : Beside s t := by
  obtain ⟨_, _, _, rfl⟩ := d; exact {}

theorem takeWithdrawOrder_effects (b : Byte) (s : State) : Effects A s (takeWithdrawOrder b s).state := by
  refine onOrder_effects fun o => ?_
  have withdrawn : Effects A s (wake (finishOrder o .withdrawn s)) :=
    (finishOrder_ends o .withdrawn s).beside.effects.trans (wake_effects _)
  split
  · exact withdrawn
  · exact withdrawn
  · exact (Effect.endsOrderly ..).chain
  all_goals exact .refl s

theorem takeRearmOrder_effects (b : Byte) (s : State) : Effects A s (takeRearmOrder b s).state := by
  refine onOrder_effects fun o => ?_
  split
  · exact (setOrder_beside o _ s).effects.trans (wake_effects _)
  · exact .refl s

theorem takeReleaseOrder_effects (b : Byte) (s : State) : Effects A s (takeReleaseOrder b s).state := by
  refine onOrder_effects fun o => ?_
  split
  · exact .refl s
  · split
    · exact .refl s
    · exact (setOrder_beside o _ s).effects

theorem setPasses_beside (x : Passes) (s : State) : Beside s { s with passes := x } := {}

theorem editPasses_effects (v : Vector (List HoldId) 12) (s : State) : Effects A s (editPasses v s) := by
  by_cases e : s.sched.state = .stopped ∨ s.sched.state = .held ∨ s.sched.state = .complete
  · have commits : Effects A s { s with passes := ⟨v, v, false⟩ } := (setPasses_beside _ s).effects
    rw [editPasses_commits e]
    split
    · exact commits
    · rw [← wake_eq]; exact commits.trans (wake_effects _)
  · rw [editPasses_waits (by cases k : s.sched.state <;> simp_all [SchedState.isPour])]
    exact (setPasses_beside _ s).effects

theorem takeSetPass_effects (b : Byte) (bs : List Byte) (s : State) : Effects A s (takeSetPass b bs s).state :=
  whileOpen_effects fun _ _ => editPasses_effects _ s

theorem takeClearPass_effects (b : Byte) (s : State) : Effects A s (takeClearPass b s).state :=
  whileOpen_effects fun _ _ => editPasses_effects _ s

/-! ### The schedule (chapter 3) -/

theorem setStep_beside (b : Bool) (s : State) : Beside s { s with sched.stepFlag := b } := {}

theorem resumeWalk_effects (e : s.sched.state.isPour = false) : Effects A s (resumeWalk s) :=
  (Effect.schedules (resumeWalk_scheduled s) (fun _ => e) (by rw [resumeWalk_state]; rfl)).chain

theorem newRound_effects (e : s.sched.state.isPour = false) : Effects A s (startRound (enterState .seeking s)) :=
  (Effect.schedules ((enterState_scheduled .seeking s).trans (startRound_scheduled _)) (fun _ => e)
    (by simp [SchedState.isPour])).chain

/-- An axis after START from HALTED: returned from FAULT unless its drive fault stands (R58, R87). -/
def AxisRec.freed (now : Time) (line : Bool) (r : AxisRec) : AxisRec :=
  match r.state, line with
  | .fault, false => r.clear now
  | _, _ => r

theorem AxisRec.freed_law {now : Time} {line inReset eStop : Bool} {r : AxisRec} (h : r.Law inReset eStop) :
    (r.freed now line).Law inReset eStop := by
  unfold freed
  split
  · exact AxisRec.clear_law ..
  · exact h

def freeAxis (a : Axis) (s : State) : State := s.setAxis a ((s.axis a).freed s.now (s.inputs.driveFault.get a))

theorem freeAxis_effects (a : Axis) (s : State) : Effects A s (freeAxis a s) :=
  (Effect.writesAxis a _ AxisRec.freed_law).chain

theorem clearAxisFaults_eq (s : State) : clearAxisFaults s = freeAxis .spout (freeAxis .reach (freeAxis .gantry s)) := rfl

theorem clearAxisFaults_effects (s : State) : Effects A s (clearAxisFaults s) := by
  rw [clearAxisFaults_eq]
  exact (freeAxis_effects ..).trans ((freeAxis_effects ..).trans (freeAxis_effects ..))

theorem clearHalts_effects (s : State) : Effects A s (clearHalts s) :=
  (Beside.effects (t := { s with sched.halts := ⟨false, false, false, false⟩ }) {}).trans (clearAxisFaults_effects _)

theorem takeStart_effects (s : State) : Effects A s (takeStart s).state := by
  have a : Effects A s { s with sched.stepFlag := false } := (setStep_beside false s).effects
  unfold takeStart
  split
  · exact .refl s
  · split
    · next e => exact a.trans (resumeWalk_effects (by exact congrArg SchedState.isPour e))
    · next e => exact a.trans (newRound_effects (by exact congrArg SchedState.isPour e))
    · next e => exact a.trans (newRound_effects (by exact congrArg SchedState.isPour e))
    · next e =>
      split
      · exact .refl s
      · exact a.trans ((clearHalts_effects _).trans (resumeWalk_effects (by exact congrArg SchedState.isPour e)))
    all_goals exact .refl s

theorem takeStep_effects (s : State) : Effects A s (takeStep s).state := by
  unfold takeStep
  split
  · next c =>
    simp only [Bool.and_eq_true, beq_iff_eq] at c
    exact (setStep_beside true s).effects.trans (resumeWalk_effects (by exact congrArg SchedState.isPour c.2))
  · exact .refl s

theorem takeHaltSchedule_effects (s : State) (h : A → ActiveLaw s) : Effects A s (takeHaltSchedule s).state := by
  have halts : Effects A s (if s.pourOrder.isSome then Taken.done (stopAxes (immediateEnd .yield .haltSchedule s))
      else Taken.done (stopSchedule (stopAxes s))).state := by
    split
    · exact (Effect.endsAtOnce ..).chain.trans (Effect.stopsAxes _).chain
    · next e =>
      have stops : Effects A (stopAxes s) (stopSchedule (stopAxes s)) := (Effect.schedules (stopSchedule_scheduled (stopAxes s))
        (fun a => by exact not_pour_of_no_order (h a) e) (by simp [stopSchedule, SchedState.isPour])).chain
      exact (Effect.stopsAxes s).chain.trans stops
  unfold takeHaltSchedule
  split
  · exact .refl s
  · exact .refl s
  all_goals exact halts

theorem moveOn_effects (e : s.sched.state = .seeking) : Effects A s (moveOn s) := by
  have n : s.sched.state.isPour = false := by rw [e]; rfl
  exact (Effect.schedules (moveOn_scheduled s) (fun _ => n) (moveOn_not_pour n)).chain

theorem passOver_effects (h : HoldId) (c : HeldCause) (e : s.sched.state = .seeking) : Effects A s (passOver h c s) :=
  (Beside.effects (t := { s with sched.held := s.sched.held.set h (some c) }) {}).trans (moveOn_effects (by exact e))

theorem examine_effects (s : State) : Effects A s (examine s) := by
  unfold examine
  split
  · exact .refl s
  · next e =>
    have seeking : s.sched.state = .seeking := not_not.mp e
    split
    · exact moveOn_effects seeking
    · split
      · exact moveOn_effects seeking
      · split
        · split
          · exact (Effect.activates _ seeking).chain
          · exact passOver_effects _ _ seeking
        · exact passOver_effects _ _ seeking

/-! ### Pours (chapter 4) -/

theorem takeReason_effects {c : PauseReason} (b : Bool) (s : State) (h : c = .cab ∨ c = .ship) :
    Effects A s (takeReason c b s).state := by
  refine whileOpen_effects fun _ _ => ?_
  cases b
  · exact (Effect.removesReason s h).chain
  · exact (Effect.addsReason s h).chain

theorem takeTopOff_effects (s : State) : Effects A s (takeTopOff s).state := by
  unfold takeTopOff
  split
  · exact (Effect.endsOrderly ..).chain
  · exact .refl s

theorem confirmChanged_effects (b : Bool) (s : State) : Effects A s (confirmChanged b s) := by
  have a : Effects A s { s with inputs.beltConfirm := b } := Beside.effects {}
  unfold confirmChanged; dsimp only
  split
  · exact a
  · split
    · exact Beside.effects {}
    · exact a.trans (Effect.endsAtOnce ..).chain
    all_goals exact a

theorem confirmExpired_effects (s : State) : Effects A s (confirmExpired s) := by
  unfold confirmExpired
  split
  · exact (reachTime_beside _ s).effects.trans (Effect.endsAtOnce ..).chain
  · exact .refl s

/-! ### The spout (chapter 5) -/

theorem takeTakeManual_effects (s : State) : Effects A s (takeTakeManual s).state := by
  unfold takeTakeManual
  split
  · exact .refl s
  · next n =>
    split
    · exact .refl s
    · exact (Effect.takesManual fun e => n (.inr e)).chain

theorem takeReleaseManual_effects (s : State) : Effects A s (takeReleaseManual s).state := by
  unfold takeReleaseManual
  split
  · exact (Effect.releasesManual s).chain
  · exact .refl s

theorem moveAxis_effects (a : Axis) (k : MoveKind) (x : Int) (s : State) : Effects A s (moveAxis a k x s) := by
  unfold moveAxis
  split
  · exact .refl s
  · next n =>
    have e : s.inputs.eStop = false := by simpa using fun e => n (.inr e)
    exact (Effect.writesAxis a _ fun _ => AxisRec.move_law (e := e) ..).chain

theorem takeJog_effects (b : Byte) (d : BitVec 32) (s : State) : Effects A s (takeJog b d s).state := by
  unfold takeJog
  split
  · exact .refl s
  · split
    · exact .refl s
    · split
      · exact .refl s
      · dsimp only
        split
        · exact .refl s
        · exact moveAxis_effects ..

theorem classArrived_effects (a : Axis) (c : SpeedClass) (s : State) :
    Effects A s (s.setAxis a ((s.axis a).confirm s.now c)) :=
  (Effect.writesAxis a _ fun h => AxisRec.confirm_law s.now c h).chain

theorem classExpired_effects (a : Axis) (s : State) : Effects A s (classExpired a s) := by
  unfold classExpired
  split
  · exact (reachTime_beside _ s).effects.trans (failAxis_effects ..)
  · exact .refl s

theorem moveExpired_effects (a : Axis) (s : State) : Effects A s (moveExpired a s) := by
  unfold moveExpired
  split
  · exact (reachTime_beside _ s).effects.trans (failAxis_effects ..)
  · exact .refl s

theorem setRunLine_beside (s : State) : Beside s (setRunLine s) := by
  obtain ⟨pour, e, reasons, ret⟩ := setRunLine_frame s
  rw [e]
  exact { reasons := reasons, returnState := ret }

theorem afterArrival_effects (a : Axis) (s : State) : Effects A s (afterArrival a s) := by
  cases a with
  | spout => exact (Effect.spoutArrives s).chain
  | gantry | reach => exact (setRunLine_beside s).effects.trans (Effect.traverseArrives _).chain

theorem positionArrived_effects (a : Axis) (x : Int) (s : State) : Effects A s (positionArrived a x s) := by
  have written : Effects A s (s.setAxis a { s.axis a with position := some x }) := (Effect.writesAxis a _ fun h => h.at _).chain
  unfold positionArrived; dsimp only
  split
  · exact written.trans (failAxis_effects ..)
  · exact written.trans ((Effect.writesAxis a _ fun h => AxisRec.advance_law s.now _ _ h).chain.trans (afterArrival_effects a _))

/-! ### Weighing and the belt (chapters 7 and 8) -/

theorem takeScaleStatus_effects (b : Byte) (s : State) : Effects A s (takeScaleStatus b s).state := by
  unfold takeScaleStatus
  split
  · exact .refl s
  · exact Beside.effects {}

theorem takeNextBatch_effects (s : State) : Effects A s (takeNextBatch s).state := by
  unfold takeNextBatch
  split
  · exact .refl s
  · unfold permittedPoll
    split
    · exact Beside.effects {}
    · exact (Effect.endsOrderly ..).chain
  · exact .refl s

theorem onLot_beside (n : Nat) (f : Lot → Lot) (s : State) : Beside s (onLot n f s) := by
  unfold onLot
  split
  · exact {}
  · exact .refl s

theorem chargeBatch_beside (g : Grant) (net : Nat) (b : Bool) (s : State) : Beside s (chargeBatch g net b s) := by
  have charged : Beside s (onLot g.lot (Lot.charge g.batch net b) s) := onLot_beside ..
  unfold chargeBatch; dsimp only
  generalize onLot g.lot (Lot.charge g.batch net b) s = w at charged ⊢
  exact charged.trans {}

theorem acceptReport_beside (g : Grant) (gross tare net : Nat) (why : Uncertified) (s : State) :
    Beside s (acceptReport g gross tare net why s) := by
  have charged : Beside s (chargeBatch g net why.any s) := chargeBatch_beside ..
  unfold acceptReport; dsimp only
  generalize chargeBatch g net why.any s = w at charged ⊢
  have recorded : Beside w { w with
    weigh.grant := none, weigh.last := some ⟨g.batch, gross, tare, .accepted g.order g.lot net why⟩ } := {}
  split
  · exact charged.trans (recorded.trans {})
  · exact charged.trans recorded

theorem faultReport_effects (g : Grant) (gross tare : Nat) (s : State) : Effects A s (faultReport g gross tare s) := by
  have accepted : Effects A s (acceptReport g gross tare g.size .faulted { s with weigh.ready := false }) :=
    (Beside.trans (t := { s with weigh.ready := false }) {} (acceptReport_beside ..)).effects
  unfold faultReport; dsimp only
  split
  · exact accepted.trans (Effect.endsAtOnce ..).chain
  · exact accepted

theorem refuseReport_effects (batch gross tare : Nat) (o : ReportOutcome) (r : Result) (s : State) (h : A → ActiveLaw s) :
    Effects A s (refuseReport batch gross tare o r s).state :=
  (Beside.effects (t := raise .scaleAlert { s with weigh.last := some ⟨batch, gross, tare, o⟩ }) {}).trans
    (haltWith_effects _ _ h)

theorem takeBatchReport_effects (b : BitVec 16) (gross tare : BitVec 32) (f : Byte) (s : State) (h : A → ActiveLaw s) :
    Effects A s (takeBatchReport b gross tare f s).state := by
  unfold takeBatchReport
  split
  · exact .refl s
  · split
    · exact refuseReport_effects (h := h) ..
    · split
      · exact refuseReport_effects (h := h) ..
      · unfold takeAccepted
        split
        · exact faultReport_effects ..
        · exact (acceptReport_beside ..).effects

theorem landRecord_beside (r : Transit) (s : State) : Beside s (landRecord r s) := by
  unfold landRecord
  split
  · next h spills _ =>
    unfold chargeDelivery
    obtain ⟨lots, e⟩ := allocateLot_frame h r (State.setHold (if spills then spillAt h r s else s) h
      { (if spills then spillAt h r s else s).hold h with
        loaded := ((if spills then spillAt h r s else s).hold h).loaded + r.net })
    obtain ⟨orders, f⟩ := credit_frame r { State.setHold (if spills then spillAt h r s else s) h
      { (if spills then spillAt h r s else s).hold h with
        loaded := ((if spills then spillAt h r s else s).hold h).loaded + r.net } with lots := lots }
    rw [e, f]
    cases spills <;> exact {}
  · obtain ⟨orders, f⟩ := credit_frame r s
    rw [f]; exact {}

theorem deliver_effects (r : Transit) (rest : List Transit) (s : State) : Effects A s (deliver r rest s) :=
  (Beside.trans (t := { s with belt.records := rest }) {} (landRecord_beside r _)).effects.trans
    ((Effect.recomputes _).chain.trans ((Effect.testsFinalisation _).chain.trans (drainTest_beside ..).effects))

theorem deliverDue_effects (n : Nat) (s : State) : Effects A s (deliverDue n s) := by
  induction n generalizing s with
  | zero => exact .refl s
  | succ n ih =>
    unfold deliverDue
    split
    · exact .refl s
    · split
      · exact .refl s
      · exact (deliver_effects ..).trans (ih _)

theorem beltPulsed_effects (s : State) : Effects A s (beltPulsed s) :=
  (Beside.effects (t := { s with belt.counter := s.belt.counter + BitVec.ofNat 32 s.settings.pulseTravel }) {}).trans
    (deliverDue_effects _ _)

/-! ### Dust (chapter 9) -/

theorem sampleArrived_effects (c : Channel) (v : Nat) (s : State) : Effects A s (sampleArrived c v s) :=
  (Effect.handsOn c _ _ {}).chain

theorem channelStale_effects (c : Channel) (s : State) : Effects A s (channelStale c s) := by
  unfold channelStale
  split
  · exact (Effect.handsOn c _ _ {}).chain
  · exact .refl s

theorem lockoutExpired_effects (h : HoldId) (s : State) : Effects A s (lockoutExpired h s) := by
  unfold lockoutExpired
  split
  · exact (Beside.trans (reachTime_beside _ s) (setHold_beside h _ _)).effects.trans (exclusionFormed_effects ..)
  · exact .refl s

/-! ### Lots, bills and the session (chapter 10) -/

theorem takeOpenLot_effects (n : BitVec 16) (a : Lot) (s : State) : Effects A s (takeOpenLot n a s).state := by
  refine whileOpen_effects fun _ _ => ?_
  split
  · exact .refl s
  · split
    · exact .refl s
    · exact Beside.effects {}

theorem takeCloseLot_effects (n : BitVec 16) (s : State) : Effects A s (takeCloseLot n s).state := by
  refine whileOpen_effects fun _ _ => ?_
  split
  · exact .refl s
  · split
    · exact .refl s
    · split
      · exact .refl s
      · next l _ _ _ =>
        exact (Beside.trans (t := { s.setLot l { s.lot l with state := .closing } with
          bank.closing := s.bank.closing ++ [_] }) {} (drainTest_beside ..)).effects

theorem releaseHead_beside (rest : List Bill) (s : State) : Beside s (releaseHead rest s) := by
  unfold releaseHead; dsimp only
  split
  · split <;> exact {}
  · exact {}

theorem takeReleaseBill_effects (n : BitVec 32) (s : State) : Effects A s (takeReleaseBill n s).state := by
  unfold takeReleaseBill
  split
  · exact .refl s
  · split
    · exact .refl s
    · split
      · exact .refl s
      · exact (releaseHead_beside _ s).effects

theorem takeVesselOpen_effects (code : BitVec 16) (s : State) (h : A → ActiveLaw s) :
    Effects A s (takeVesselOpen code s).state := by
  unfold takeVesselOpen
  split
  · exact .refl s
  · split
    · exact .refl s
    · next v => exact (Effect.opensSession code fun a => by rw [(h a).2.2 (by simpa using v)]; rfl).chain

theorem takeVesselClose_effects (s : State) : Effects A s (takeVesselClose s).state := by
  unfold takeVesselClose
  split
  · next c =>
    simp only [State.mayClose, Bool.and_eq_true, Bool.or_eq_true, beq_iff_eq] at c
    obtain ⟨⟨⟨-, st⟩, -⟩, -⟩ := c
    exact (Effect.opensSession 0 fun _ => by rcases st with (e | e) | e <;> rw [e] <;> rfl).chain
  · exact .refl s

/-! ### Settings and resets (chapter 11) -/

/-- Only a critical flag written changes a critical flag. -/
theorem put_critical (v : Settings) {n : SettingName} (x : Int) (h : ∀ c, n ≠ .critical c) (c : Channel) :
    ((v.put n x).channels.get c).critical = (v.channels.get c).critical := by
  cases n with
  | critical k => exact absurd rfl (h k)
  | warnOn k | warnOff k | stopOn k | stopOff k | upCount k | downCount k =>
    simp only [Settings.put, Settings.onChannel, PerChannel.get_set]
    split
    · next e => rw [e]
    · rfl
  | _ => rfl

theorem putSetting_beside {n : SettingName} (x : Int) (s : State) (h : ∀ c, n ≠ .critical c) :
    Beside s { s with settings := s.settings.put n x } where
  level c := congrArg (effective · (s.channel c).state) (put_critical s.settings x h c)

theorem useSetting_effects (n : SettingName) (x : Int) (s : State) : Effects A s (useSetting n x s) := by
  have writes : (∀ c, n ≠ .critical c) → Effects A s { s with settings := s.settings.put n x } := fun h =>
    (putSetting_beside x s h).effects
  unfold useSetting
  split
  · exact (Effect.handsOn _ _ _ {}).chain
  · dsimp only
    split
    · exact .refl s
    · exact (writes nofun).trans (setPort_beside ..).effects
  all_goals exact writes nofun

theorem beginCopy_beside (s : State) : Beside s (beginCopy s) := by
  unfold beginCopy; split <;> exact {}

theorem takeWriteSetting_effects (b : Byte) (sub : Option Byte) (v : BitVec 32) (s : State) :
    Effects A s (takeWriteSetting b sub v s).state := by
  unfold takeWriteSetting
  split
  · exact .refl s
  · split
    · exact .refl s
    · split
      · exact .refl s
      · exact (useSetting_effects ..).trans (beginCopy_beside _).effects

theorem writeCompleted_beside (s : State) : Beside s (writeCompleted s) := by
  unfold writeCompleted; split <;> exact {}

theorem stopStanding_effects (s : State) (h : A → ActiveLaw s) : Effects A s (stopStanding s) := by
  unfold stopStanding
  split
  · next e =>
    have same : { s with inputs.eStop := true } = s := by rw [← e]
    have stops : Effects A s (emergencyStop { s with inputs.eStop := true }) := (Effect.stopsAll h).chain
    rwa [same] at stops
  · exact .refl s

theorem driveStanding_effects (a : Axis) (s : State) : Effects A s (driveStanding a s) := by
  unfold driveStanding
  split
  · exact failAxis_effects ..
  · exact .refl s

/-- A start-up begins from the reset values of every block (R185). -/
theorem startedUp_effects (s : State) : Effects A s (startedUp s) := by
  unfold startedUp; dsimp only
  have fresh := (fresh_laws s.now s.inputs s.store.loaded { s.store with cond := .idle, copying := none } s.pending).1
  have starts : Effects A s (State.fresh s.now s.inputs s.store.loaded { s.store with cond := .idle, copying := none } s.pending) :=
    (Effect.startsUp ..).chain
  generalize State.fresh s.now s.inputs s.store.loaded { s.store with cond := .idle, copying := none } s.pending = w at fresh starts ⊢
  have settings : Beside w (settingsEvent w) ∧ ActiveLaw (settingsEvent w) := by
    unfold settingsEvent; split
    · exact ⟨.refl w, fresh⟩
    · exact ⟨{}, fresh⟩
  exact starts.trans (settings.1.effects.trans ((stopStanding_effects _ fun _ => settings.2).trans
    ((driveStanding_effects ..).trans ((driveStanding_effects ..).trans (driveStanding_effects ..)))))

/-! ### Requests, frames and bytes -/

theorem idlePort_beside (p : Port) (s : State) : Beside s (idlePort p s) := {}

theorem request_effects {i : Instr} {p : Port} {owner : State → Taken} (a : A → ActiveLaw s)
    (h : ∀ w, (A → ActiveLaw w) → Effects A w (owner w).state) (e : request i p owner s = .next t) : Effects A s t := by
  have idled : Effects A s (idlePort p s) := (idlePort_beside p s).effects
  have answers : ∀ c r items w, Effects A w (reply p c r items w) := fun c r items w => (setPort_beside ..).effects
  unfold request at e
  injection e with e
  subst e
  split
  · exact .refl s
  · split
    · exact idled
    · dsimp only
      split
      · exact idled.trans (answers ..)
      · split
        · exact idled.trans (answers ..)
        · exact idled.trans ((h (idlePort p s) a).trans (answers ..))

theorem event_effects {f : State → State} (h : ∀ w, Effects A w (f w)) (e : event f s = .next t) : Effects A s t := by
  unfold event at e
  injection e with e
  subst e
  split
  · exact .refl s
  · exact h s

/-- A request that reads changes nothing. -/
theorem reads_effects {r : Taken} (e : r.state = s) : Effects A s r.state := by rw [e]; exact .refl s

/-- The request of a frame, by its code. -/
theorem takeRequest_effects (i : Instr) (a : A → ActiveLaw s) (e : takeRequest i s = .next t) : Effects A s t := by
  cases i
  case vesselOpen => exact request_effects a (fun w => takeVesselOpen_effects _ w) e
  case vesselClose => exact request_effects a (fun w _ => takeVesselClose_effects w) e
  case declareHold => exact request_effects a (fun w _ => takeDeclareHold_effects _ _ w) e
  case setShipOffset => exact request_effects a (fun w _ => takeSetShipOffset_effects _ _ w) e
  case readHold => exact request_effects a (fun w _ => reads_effects (by unfold takeReadHold; split <;> rfl)) e
  case readStaged =>
    exact request_effects a (fun w _ => reads_effects (by unfold takeReadStaged; split <;> [rfl; split] <;> rfl)) e
  case setHoldLimit => exact request_effects a (fun w _ => takeSetHoldLimit_effects _ _ w) e
  case closeHatch => exact request_effects a (fun w _ => takeCloseHatch_effects _ w) e
  case openHatch => exact request_effects a (fun w _ => takeOpenHatch_effects _ w) e
  case reportDraft => exact request_effects a (fun w _ => takeReportDraft_effects _ w) e
  case setTpc => exact request_effects a (fun w _ => takeSetTpc_effects _ w) e
  case suspend => exact request_effects a (fun w _ => takeSuspend_effects _ w) e
  case resume => exact request_effects a (fun w _ => takeResume_effects w) e
  case holdFeed => exact request_effects a (fun w _ => takeReason_effects _ w (.inr rfl)) e
  case releaseFeed => exact request_effects a (fun w _ => takeReason_effects _ w (.inr rfl)) e
  case addOrder => exact request_effects a (fun w _ => takeAddOrder_effects _ w) e
  case withdrawOrder => exact request_effects a (fun w _ => takeWithdrawOrder_effects _ w) e
  case rearmOrder => exact request_effects a (fun w _ => takeRearmOrder_effects _ w) e
  case releaseOrder => exact request_effects a (fun w _ => takeReleaseOrder_effects _ w) e
  case readOrder => exact request_effects a (fun w _ => reads_effects (by unfold takeReadOrder; split <;> rfl)) e
  case setPass => exact request_effects a (fun w _ => takeSetPass_effects _ _ w) e
  case clearPass => exact request_effects a (fun w _ => takeClearPass_effects _ w) e
  case readPass => exact request_effects a (fun w _ => reads_effects (by unfold takeReadPass; split <;> rfl)) e
  case start => exact request_effects a (fun w _ => takeStart_effects w) e
  case step => exact request_effects a (fun w _ => takeStep_effects w) e
  case haltSchedule => exact request_effects a (fun w => takeHaltSchedule_effects w) e
  case pause => exact request_effects a (fun w _ => takeReason_effects _ w (.inl rfl)) e
  case continuePour => exact request_effects a (fun w _ => takeReason_effects _ w (.inl rfl)) e
  case topOff => exact request_effects a (fun w _ => takeTopOff_effects w) e
  case takeManual => exact request_effects a (fun w _ => takeTakeManual_effects w) e
  case releaseManual => exact request_effects a (fun w _ => takeReleaseManual_effects w) e
  case jog => exact request_effects a (fun w _ => takeJog_effects _ _ w) e
  case silenceHorn => exact request_effects a (fun w _ => Beside.effects (t := { w with dust.hornOn := false }) {}) e
  case nextBatch => exact request_effects a (fun w _ => takeNextBatch_effects w) e
  case batchReport => exact request_effects a (fun w => takeBatchReport_effects _ _ _ _ w) e
  case scaleStatus => exact request_effects a (fun w _ => takeScaleStatus_effects _ w) e
  case openLot => exact request_effects a (fun w _ => takeOpenLot_effects _ _ w) e
  case closeLot => exact request_effects a (fun w _ => takeCloseLot_effects _ w) e
  case readLot =>
    exact request_effects a (fun w _ => reads_effects (by unfold takeReadLot; split <;> [rfl; split] <;> rfl)) e
  case readBill => exact request_effects a (fun w _ => reads_effects (by unfold takeReadBill; split <;> rfl)) e
  case releaseBill => exact request_effects a (fun w _ => takeReleaseBill_effects _ w) e
  case writeSetting => exact request_effects a (fun w _ => takeWriteSetting_effects _ _ _ w) e
  case readSetting => exact request_effects a (fun w _ => reads_effects (by unfold takeReadSetting; split <;> rfl)) e
  case readStatus => exact request_effects a (fun w _ => reads_effects (by unfold takeReadStatus; split <;> rfl)) e
  case readEvents => exact request_effects a (fun w _ => (setPort_beside ..).effects) e
  case setEventEnable =>
    refine request_effects a (fun w _ => ?_) e
    unfold takeSetEventEnable
    split
    · exact .refl w
    · exact (setPort_beside ..).effects
  all_goals exact Host.Outcome.next.inj e ▸ .refl s

theorem takeFrame_effects {p : Port} {c : Byte} {body : List Byte} (a : A → ActiveLaw s) (e : takeFrame p c body s = .next t) :
    Effects A s t := by
  have idled : Effects A s (idlePort p s) := (idlePort_beside p s).effects
  unfold takeFrame at e
  split at e
  · exact Host.Outcome.next.inj e ▸ .refl s
  · split at e
    · exact Host.Outcome.next.inj e ▸ idled
    · split at e
      · exact takeRequest_effects _ a e
      · exact Host.Outcome.next.inj e ▸ idled.trans (setPort_beside ..).effects

theorem byteInIdle_beside (p : Port) (b : Byte) (s : State) : Beside s (byteInIdle p b s) := by
  unfold byteInIdle
  split <;> exact {}

theorem byteInFrame_effects {p : Port} {got : List Byte} {b : Byte} (a : A → ActiveLaw s)
    (e : byteInFrame p got b s = .next t) : Effects A s t := by
  have idled : Effects A s (idlePort p s) := (idlePort_beside p s).effects
  unfold byteInFrame at e
  split at e
  · rw [← Host.Outcome.next.inj e]
    split <;> exact Beside.effects {}
  · split at e
    · exact Host.Outcome.next.inj e ▸ Beside.effects {}
    · unfold frameGathered at e
      dsimp only at e
      split at e
      · split at e
        · exact idled.trans (takeFrame_effects (s := idlePort p s) a e)
        · exact Host.Outcome.next.inj e ▸ idled
      · exact Host.Outcome.next.inj e ▸ idled

theorem execByteArrival_effects {p : Port} {b : Byte} (a : A → ActiveLaw s) (e : execByteArrival p b s = .next t) :
    Effects A s t := by
  have idle : Effects A s (byteInIdle p b s) := (byteInIdle_beside p b s).effects
  unfold execByteArrival byteTaken at e
  split at e
  · exact Host.Outcome.next.inj e ▸ .refl s
  · split at e
    · exact Host.Outcome.next.inj e ▸ idle
    · split at e
      · exact Host.Outcome.next.inj e ▸ idle
      · exact byteInFrame_effects a e

theorem gapPassed_beside (p : Port) (s : State) : Beside s (gapPassed p s) := by
  unfold gapPassed
  split
  · exact (reachTime_beside _ s).trans (idlePort_beside ..)
  · exact .refl s

theorem replyGone_beside (p : Port) (s : State) : Beside s (replyGone p s) := by
  unfold replyGone
  split
  · exact .refl s
  · exact setPort_beside ..

/-- Every command is a chain of effects. -/
theorem exec_effects (i : Instr) (a : A → ActiveLaw s) (e : exec i s = .next t) : Effects A s t := by
  cases r : i.requestPort with
  | some p => exact takeRequest_effects i a (exec_of_request r s ▸ e)
  | none =>
    cases i
    case frameRefused => exact takeFrame_effects a e
    case frameDiscarded => exact event_effects (fun w => (idlePort_beside _ w).effects) e
    case frameGapTimeout => exact event_effects (fun w => (gapPassed_beside _ w).effects) e
    case replySent => exact event_effects (fun w => (replyGone_beside _ w).effects) e
    case reset => exact Host.Outcome.next.inj e ▸ (Effect.resets s).chain
    case startUp => exact Host.Outcome.next.inj e ▸ startedUp_effects s
    case writeCompletion => exact event_effects (fun w => (writeCompleted_beside w).effects) e
    case emergencyStopAssert =>
      rw [← Host.Outcome.next.inj e]
      split
      · next r => exact (Effect.notesStop r).chain
      · exact (Effect.stopsAll a).chain
    case emergencyStopRelease => exact Host.Outcome.next.inj e ▸ (Effect.releasesStop s).chain
    case driveFaultAssert x =>
      rw [← Host.Outcome.next.inj e]
      have noted : Effects A s { s with inputs.driveFault := s.inputs.driveFault.set x true } := Beside.effects {}
      split
      · exact noted
      · exact noted.trans (failAxis_effects ..)
    case driveFaultRelease => exact Host.Outcome.next.inj e ▸ Beside.effects {}
    case positionArrival => exact event_effects (positionArrived_effects _ _) e
    case classArrival => exact event_effects (classArrived_effects _ _) e
    case classDeadlineExpiry => exact event_effects (classExpired_effects _) e
    case moveDeadlineExpiry => exact event_effects (moveExpired_effects _) e
    case beltConfirmChange => exact Host.Outcome.next.inj e ▸ confirmChanged_effects _ s
    case confirmDeadlineExpiry => exact event_effects confirmExpired_effects e
    case beltPulse => exact event_effects beltPulsed_effects e
    case riverLevelArrival => exact event_effects (levelArrived_effects _) e
    case levelStale => exact event_effects levelGoesStale_effects e
    case dustSampleArrival => exact event_effects (sampleArrived_effects _ _) e
    case dustStaleExpiry => exact event_effects (channelStale_effects _) e
    case lockoutExpiry => exact event_effects (lockoutExpired_effects _) e
    case examination => exact event_effects examine_effects e
    case byteArrival => exact execByteArrival_effects a e
    case framingError => exact event_effects (fun w => (idlePort_beside _ w).effects) e
    all_goals cases r

/-- Every step is a chain of effects. -/
theorem step_effects (a : A → ActiveLaw s) (e : step s = .next t) : Effects A s t := by
  unfold step at e
  split at e
  · have taken : Effects A s s.rest := Beside.effects {}
    exact taken.trans (exec_effects _ (s := s.rest) a e)
  · exact Host.Outcome.next.inj e ▸ Beside.effects {}

end Sys2Proof.Machine
end

section
/-! Every effect keeps the law of the axes and the law of the pauses, so every step does. -/

set_option Elab.async false

namespace Sys2Proof.Machine

variable {A : Prop} {s t : State}

/-! ### The law of the axes -/

/-- While reset is asserted every axis is commanded STOP, whatever it was commanded before (R184). -/
theorem AxisRec.Law.held {r : AxisRec} {inReset eStop : Bool} (h : r.Law inReset eStop) :
    { r with commanded := .stop }.Law true eStop := by
  obtain ⟨move, -, aimed, -, fault, -⟩ := h
  exact ⟨move, fun _ => rfl, aimed, nofun, fault, nofun⟩

theorem newSession_axes (vessel : BitVec 16) (s : State) : (newSession vessel s).axes = s.axes ∧
    (newSession vessel s).inReset = s.inReset ∧ (newSession vessel s).inputs = s.inputs := by
  obtain ⟨_, _, _, e⟩ := enterState_scheduled .stopped (clearSession vessel s)
  unfold newSession; dsimp only
  split <;> rw [e] <;> exact ⟨rfl, rfl, rfl⟩

theorem Effect.axesLaw (c : Effect A s t) (h : AxesLaw s) : AxesLaw t := by
  cases c with
  | beside b => exact h.congr b.axes b.inReset b.eStop
  | writesAxis a r l => exact setAxis_axesLaw h (l (h a))
  | stopsAxes => exact stopAxes_axesLaw h
  | schedules f => exact f.axesLaw h
  | activates o => exact activate_axesLaw o h
  | recomputes => exact settle_axesLaw (recomputeTravel_answers false s) h
  | traverseArrives => exact settle_axesLaw (traverseArrived_answers s) h
  | spoutArrives => exact settle_axesLaw (spoutArrived_answers s) h
  | endsAtOnce c k => exact immediateEnd_axesLaw c k h
  | endsOrderly c => exact orderlyEnd_axesLaw c h
  | testsFinalisation => exact finalisationTest_axesLaw h
  | addsReason => exact addReason_axesLaw _ h
  | removesReason => exact removeReason_axesLaw _ h
  | takesManual => exact addReason_axesLaw _ h.congr
  | releasesManual => exact removeReason_axesLaw _ (stopAxes_axesLaw h).congr
  | handsOn c before level u => exact handOn_axesLaw c before level (h.congr u.axes u.inReset u.eStop)
  | stopsAll => exact emergencyStop_axesLaw h
  | notesStop e =>
    intro a
    have l : (s.axis a).Law s.inReset s.inputs.eStop := h a
    simp only [State.axis, e] at l ⊢
    exact l.in_reset
  | releasesStop => exact fun a => (h a).released
  | opensSession vessel =>
    obtain ⟨axes, inReset, inputs⟩ := newSession_axes vessel s
    exact h.congr axes inReset (by rw [inputs])
  | resets =>
    intro a
    simp only [State.axis, holdOutputs, PerAxis.get_map]
    exact (h a).held
  | startsUp => intro a; cases a <;> exact AxisRec.cleared_law

/-- Settles O19: every step is a chain of effects and each of them keeps the law of the axes. -/
theorem axesLawKept : Obligations.AxesLawKept := by
  unfold Obligations.AxesLawKept
  intro s t h e
  exact (step_effects (A := ActiveLaw s) id e).keep Effect.axesLaw h

/-! ### The law of the pauses -/

/-- With MANUAL and DUST_PLANT where they were, the reasons that remain to follow are the requested ones. -/
theorem PauseLaw.of_reasons (h : PauseLaw s) {r : ReasonSet} (k : Kept { s with pour.reasons := r } t)
    (manual : r.manual = s.pour.reasons.manual) (dust : r.dust = s.pour.reasons.dust)
    (shape : AuthorityAgrees { s with pour.reasons := r } → PauseShape s → PauseShape t) : PauseLaw t := by
  obtain ⟨authority, plant, was⟩ := (pauseLaw_iff s).mp h
  have authority' : AuthorityAgrees { s with pour.reasons := r } := manual.trans authority
  have plant' : PlantAgrees { s with pour.reasons := r } := fun e => (Bool.eq_iff_iff.mp dust).trans (plant e)
  exact (pauseLaw_iff t).mpr ⟨k.authority authority', k.plant plant', shape authority' was⟩

theorem ReasonSet.put_requested {c : PauseReason} (h : c = .cab ∨ c = .ship) (r : ReasonSet) (b : Bool) :
    (r.put c b).manual = r.manual ∧ (r.put c b).dust = r.dust := by
  rcases h with rfl | rfl <;> exact ⟨rfl, rfl⟩

theorem haltWith_shape (c : ImmediateCause) (k : HaltCause) (a : ActiveLaw s) (h : PauseShape s) : PauseShape (haltWith c k s) := by
  unfold haltWith
  split
  · exact immediateEnd_shape c _ h
  · next e =>
    cases v : s.vesselOpen with
    | false => rw [raiseHalt_closed k v]; exact h
    | true =>
      exact (raiseHalt_scheduled k s).shape (not_pour_of_no_order a e) (by rw [(raiseHalt_sched k v).1]; rfl) h

theorem PauseLaw.sounded (h : PauseLaw s) : PauseLaw { s with dust.hornOn := true } := h

theorem emergencyStop_pauseLaw (a : ActiveLaw s) (h : PauseLaw s) : PauseLaw (emergencyStop { s with inputs.eStop := true }) := by
  have asserted : ActiveLaw { s with inputs.eStop := true } ∧ PauseLaw { s with inputs.eStop := true } := ⟨a, h⟩
  unfold emergencyStop
  generalize ({ s with inputs.eStop := true } : State) = w at asserted ⊢
  have halted := (haltWith_kept .yield .estop w).pauseLaw asserted.2 fun _ l => haltWith_shape .yield .estop asserted.1 l
  exact ((stopAxes_kept _).pauseLaw halted fun _ l => l.congr).sounded

/-- TAKE MANUAL adds MANUAL beside the authority; DRAINING refuses it (R101). -/
theorem takesManual_pauseLaw (n : s.sched.state ≠ .draining) (h : PauseLaw s) :
    PauseLaw (addReason .manual { s with spout.manual := true }) := by
  obtain ⟨-, plant, shape⟩ := (pauseLaw_iff s).mp h
  obtain ⟨onWay, paused, -, phase, travels⟩ := shape
  have k := addReason_kept .manual { s with spout.manual := true }
  exact (pauseLaw_iff _).mpr ⟨k.authority rfl, k.plant plant,
    addReason_shape .manual ⟨onWay, paused, fun e => absurd e n, phase, travels⟩⟩

/-- RELEASE MANUAL stops the axes and takes MANUAL from the set beside the authority (R102). -/
theorem releasesManual_pauseLaw (h : PauseLaw s) :
    PauseLaw (removeReason .manual { stopAxes s with spout.manual := false }) := by
  obtain ⟨-, plant, shape⟩ := (pauseLaw_iff s).mp h
  obtain ⟨onWay, paused, -, phase, travels⟩ := shape
  have k := removeReason_kept .manual { stopAxes s with spout.manual := false }
  exact (pauseLaw_iff _).mpr ⟨k.authority rfl, k.plant plant,
    removeReason_shape .manual rfl ⟨onWay, paused, fun _ => rfl, phase, travels⟩⟩

theorem newSession_shape (vessel : BitVec 16) (before : s.sched.state.isPour = false) (h : PauseShape s) :
    PauseShape (newSession vessel s) := by
  have f := enterState_scheduled .stopped (clearSession vessel s)
  have idle : TravelIdle (enterState .stopped (clearSession vessel s)) :=
    (h.travelIdle (not_travelling_of_not_pour before)).congr f.spout
  have shape := idle.shape (by simp [SchedState.isPour])
  unfold newSession; dsimp only
  split
  · exact shape
  · exact shape.congr

theorem newSession_pauseLaw (vessel : BitVec 16) (before : s.sched.state.isPour = false) (h : PauseLaw s) :
    PauseLaw (newSession vessel s) := by
  obtain ⟨authority, plant, shape⟩ := (pauseLaw_iff s).mp h
  have cleared : Kept (clearSession vessel s) (newSession vessel s) := by
    unfold newSession; dsimp only
    split
    · exact enterState_kept ..
    · exact (enterState_kept ..).trans (raise_kept ..)
  exact (pauseLaw_iff _).mpr ⟨cleared.authority authority, cleared.plant plant, newSession_shape vessel before shape⟩

theorem fresh_pauseLaw (now : Time) (i : Inputs) (v : Settings) (st : Store) (q : List Instr) :
    PauseLaw (State.fresh now i v st q) := by
  have normal : ∀ c, (State.fresh now i v st q).level c = .normal := fun c => by cases c <;> rfl
  have idle : TravelIdle (State.fresh now i v st q) := .of_none rfl rfl
  refine (pauseLaw_iff _).mpr ⟨rfl, fun _ => ⟨nofun, ?_⟩, idle.shape rfl⟩
  rintro ⟨c, -, e⟩
  rw [normal c] at e; cases e

theorem Effect.pauseLaw (known : A) (c : Effect A s t) (h : PauseLaw s) : PauseLaw t := by
  obtain ⟨authority, plant, shape⟩ := (pauseLaw_iff s).mp h
  cases c with
  | beside b =>
    refine (pauseLaw_iff t).mpr ⟨?_, ?_, shape.congr b.state b.reasons b.returnState b.spout⟩
    · rw [AuthorityAgrees, b.reasons, b.spout]; exact authority
    · simp only [PlantAgrees, b.inReset, b.reasons, b.level]; exact plant
  | writesAxis => exact h
  | stopsAxes => exact (stopAxes_kept s).pauseLaw h fun _ l => l.congr
  | schedules f before after =>
    have shape := f.shape (before known) after shape
    obtain ⟨_, _, _, rfl⟩ := f
    exact (pauseLaw_iff _).mpr ⟨authority, plant, shape⟩
  | activates o e =>
    exact (activate_kept o s).pauseLaw h fun _ l => activate_shape o (l.travelIdle (by rw [e]; nofun))
  | recomputes => exact (recompute_kept s).pauseLaw h fun a l => recomputeTravel_shape false a l
  | traverseArrives => exact (settle_kept _ (traverseArrived_kept s)).pauseLaw h fun a l => traverseArrived_shape a l
  | spoutArrives => exact (settle_kept _ (spoutArrived_kept s)).pauseLaw h fun a l => spoutArrived_shape a l
  | endsAtOnce c k => exact (immediateEnd_kept c k s).pauseLaw h fun _ l => immediateEnd_shape c k l
  | endsOrderly c => exact (orderlyEnd_kept c s).pauseLaw h fun a l => orderlyEnd_shape c a l
  | testsFinalisation => exact (finalisationTest_kept s).pauseLaw h fun _ l => finalisationTest_shape l
  | addsReason _ e =>
    obtain ⟨manual, dust⟩ := ReasonSet.put_requested e s.pour.reasons true
    exact h.of_reasons (addReason_kept _ s) manual dust fun _ l => addReason_shape _ l
  | removesReason _ e =>
    obtain ⟨manual, dust⟩ := ReasonSet.put_requested e s.pour.reasons false
    exact h.of_reasons (removeReason_kept _ s) manual dust fun a l => removeReason_shape _ a l
  | takesManual n => exact takesManual_pauseLaw n h
  | releasesManual => exact releasesManual_pauseLaw h
  | handsOn c before level u =>
    refine handOn_pauseLaw c before level ?_ (shape.congr u.state u.reasons u.returnState u.spout)
    rw [AuthorityAgrees, u.reasons, u.spout]; exact authority
  | stopsAll a => exact emergencyStop_pauseLaw (a known) h
  | notesStop | releasesStop => exact h
  | opensSession vessel before => exact newSession_pauseLaw vessel (before known) h
  | resets => exact (pauseLaw_iff _).mpr ⟨authority, nofun, shape.congr⟩
  | startsUp => exact fresh_pauseLaw ..

/-- Settles O18: every step is a chain of effects and each of them keeps the law of the pauses; a halt outside a pour finds the scheduler
in no pour state by the law of the active order. -/
theorem pauseLawKept : Obligations.PauseLawKept := by
  unfold Obligations.PauseLawKept
  intro s t a h e
  exact (step_effects (A := ActiveLaw s) id e).keep (Effect.pauseLaw a) h

end Sys2Proof.Machine
end

section
/-! Pause reasons in the terms of Safety.lean (R68 to R70, R99): what one added and one removed lead to, with the pause and its end. -/

set_option Elab.async false

namespace Sys2Proof.Machine

variable {s w u : State} {p : Port} {x : Receive} {r : PauseReason} {ret : ReturnState} {h : HoldId}

/-! ### A reason added (R65 to R69) -/

theorem abandonTravel_eq (s : State) :
    abandonTravel s = { s with
      spout := if s.spout.phase = .none then s.spout else { s.spout with cond := some .abandoned } } := by
  unfold abandonTravel
  split
  · next e => rw [if_pos e]
  all_goals
    next e => rw [if_neg (by rw [e]; nofun)]

/-- PAUSED entered from a state that raises no SCHEDULE (R68). -/
theorem enterPaused_pauses (ret : ReturnState) (q : s.sched.state.resting = false) : PourPauses ret s (enterPaused ret s) := by
  have entered : enterPaused ret s = { s with
      sched.state := .paused
      pour := ⟨s.pour.reasons, some ret, s.pour.reasons.manual, s.pour.endCause, false, .off, none⟩
      axes := s.axes.map (AxisRec.halt s.now)
      spout := if s.spout.phase = .none then s.spout else { s.spout with cond := some .abandoned } } := by
    unfold enterPaused
    rw [enterState_quiet rfl q, abandonTravel_eq, setRunLine_lineSet]
    rfl
  rw [entered]
  exact ⟨rfl, rfl, rfl, fun a => PerAxis.get_map .., fun _ => rfl, fun _ => rfl, rfl⟩

/-- The state a TRAVELLING or POURING pour returns to from a pause (R68). -/
theorem addReason_first (st : (s.sched.state = .travelling ∧ ret = .travelling) ∨ (s.sched.state = .pouring ∧ ret = .pouring))
    (e : s.pour.reasons = ⟨false, false, false, false⟩) :
    PourPauses ret { s with pour.reasons := s.pour.reasons.put r true } (addReason r s) := by
  have empty := (ReasonSet.isEmpty_iff _).mpr e
  unfold addReason
  rcases st with ⟨st, rfl⟩ | ⟨st, rfl⟩ <;> rw [st, empty] <;>
    exact enterPaused_pauses (s := { s with pour.reasons := s.pour.reasons.put r true }) _ (by rw [st]; rfl)

/-- A reason that pauses nothing (R69). -/
theorem addReason_joins
    (c : s.sched.state ≠ .travelling ∧ s.sched.state ≠ .pouring ∨ s.pour.reasons ≠ ⟨false, false, false, false⟩)
    (m : s.sched.state ≠ .paused ∨ r ≠ .manual) : addReason r s = { s with pour.reasons := s.pour.reasons.put r true } := by
  have stands : s.sched.state = .travelling ∨ s.sched.state = .pouring → s.pour.reasons.isEmpty = false := fun st =>
    Bool.eq_false_iff.mpr fun e => c.elim (fun n => st.elim n.1 n.2) (absurd ((ReasonSet.isEmpty_iff _).mp e))
  unfold addReason; dsimp only
  split
  · next st => rw [stands (.inl st)]; rfl
  · next st => rw [stands (.inr st)]; rfl
  · next st => rw [if_neg (m.elim (absurd st) id)]
  all_goals rfl

theorem addReason_manual (st : s.sched.state = .paused) :
    addReason .manual s = { s with pour.reasons.manual := true, pour.manualSeen := true } := by
  unfold addReason; rw [st]; rfl

theorem reasonAdded (r : PauseReason) (s : State) : ReasonAdded r s (addReason r s) :=
  ⟨fun _ st e => ⟨addReason_first st e, addReason_kept r s⟩,
    fun c => ⟨fun ⟨st, m⟩ => by subst m; exact addReason_manual st, addReason_joins c⟩⟩

/-! ### A reason removed (R69, R70) -/

/-- The state in which a paused pour begins its travel again. -/
def State.onWay (s : State) : State :=
  { s with sched.state := .travelling, pour.returnState := none, pour.manualSeen := false }

/-- An abandoned travel begun again (R99). -/
theorem restartTravel_seen (w : State) : RaiseBegins TravelEnds w (settle (restartTravel true w)) :=
  raiseBegins fun v _ => travelEnds v

theorem restartTravel_raise (e : w.spout.phase = .raise) : RaiseBegins TravelEnds w (settle (restartTravel false w)) := by
  simp only [restartTravel, e]
  exact raiseBegins fun v _ => travelEnds v

theorem restartTravel_lower (e : w.spout.phase = .lower) : LowerBegins TravelEnds w (settle (restartTravel false w)) := by
  simp only [restartTravel, e]
  exact lowerBegins fun v _ => travelEnds v

theorem restartTravel_traverse (e : w.spout.phase = .traverse) {x : Int} (hx : w.spout.spotX = some x) :
    let z := w.travelHeight (w.moveFromGantry x)
    (w.spoutAtOrAbove z = true → TraverseBegins TravelEnds { w with spout.height := some z } (settle (restartTravel false w))) ∧
      (w.spoutAtOrAbove z = false → RaiseBegins TravelEnds w (settle (restartTravel false w))) := by
  intro z
  have written : writeHeight w = { w with spout.height := some z } := by rw [writeHeight, heightToSpot_eq hx]
  have again : restartTravel false w =
      if w.spoutAtOrAbove z then beginTraverse { w with spout.height := some z } else beginRaise w := by
    simp only [restartTravel, e, written]
    rfl
  refine ⟨fun c => ?_, fun c => ?_⟩ <;> rw [again, c]
  · exact traverseBegins fun v _ => travelEnds v
  · exact raiseBegins fun v _ => travelEnds v

/-- A pour that goes on with its travel (R70). -/
theorem leavePause_travels (st : s.sched.state = .paused) (back : s.pour.manualSeen = true ∧ s.pour.returnState ≠ none ∨
      s.pour.manualSeen = false ∧ s.pour.returnState = some .travelling) :
    leavePause s = settle (restartTravel s.pour.manualSeen s.onWay) := by
  have enters : enterState .travelling { s with pour.returnState := none, pour.manualSeen := false } = s.onWay :=
    enterState_quiet rfl (by exact congrArg SchedState.resting st)
  rw [← enters]
  unfold leavePause
  rcases back with ⟨seen, ret⟩ | ⟨seen, ret⟩
  · rw [seen]
    cases e : s.pour.returnState with
    | none => exact absurd e ret
    | some k => cases k <;> rfl
  · rw [seen, ret]

/-- A pour that goes on feeding (R70). -/
theorem leavePause_feeds (seen : s.pour.manualSeen = false) (ph : s.pourHold = some h) :
    (s.pour.returnState = some .pouring → leavePause s = s.onWay.fed .pouring h) ∧
      (s.pour.returnState = some .draining → leavePause s = finalisationTest (s.onWay.fed .draining h)) := by
  have fed : ∀ {st}, st = .pouring ∨ st = .draining →
      enterFeeding st { s with pour.returnState := none, pour.manualSeen := false } = s.onWay.fed st h := fun f =>
    enterFeeding_fed (s := { s with pour.returnState := none, pour.manualSeen := false }) f ph
  unfold leavePause
  refine ⟨fun ret => ?_, fun ret => ?_⟩ <;> rw [ret, seen]
  · exact fed (.inl rfl)
  · exact congrArg finalisationTest (fed (.inr rfl))

theorem pauseLeft (st : s.sched.state = .paused) : PauseLeft s (leavePause s) := by
  refine ⟨fun seen ret => ?_, fun seen => ⟨fun ret => ?_, fun h ph => ?_⟩⟩
  · rw [leavePause_travels st (.inl ⟨seen, ret⟩), seen]
    exact restartTravel_seen s.onWay
  · rw [leavePause_travels st (.inr ⟨seen, ret⟩), seen]
    exact ⟨restartTravel_raise (w := s.onWay), restartTravel_lower (w := s.onWay),
      fun e _ => restartTravel_traverse (w := s.onWay) e⟩
  · obtain ⟨pours, drains⟩ := leavePause_feeds seen ph
    exact ⟨pours, fun ret => (drains ret).symm ▸ finalisationTested _⟩

/-- A reason removed that leaves no pause (R69). -/
theorem removeReason_leaves (c : s.sched.state ≠ .paused ∨ s.pour.reasons = ⟨false, false, false, false⟩ ∨
      s.pour.reasons.put r false ≠ ⟨false, false, false, false⟩) :
    removeReason r s = { s with pour.reasons := s.pour.reasons.put r false } := by
  refine if_neg ?_
  rintro ⟨st, stands, empty⟩
  rcases c with c | c | c
  · exact c st
  · rw [(ReasonSet.isEmpty_iff _).mpr c] at stands; cases stands
  · exact c ((ReasonSet.isEmpty_iff _).mp empty)

/-- The last reason removed from a PAUSED pour (R70). -/
theorem removeReason_last (st : s.sched.state = .paused) (stands : s.pour.reasons ≠ ⟨false, false, false, false⟩)
    (e : s.pour.reasons.put r false = ⟨false, false, false, false⟩) :
    removeReason r s = leavePause { s with pour.reasons := s.pour.reasons.put r false } :=
  if_pos ⟨st, Bool.eq_false_iff.mpr (mt (ReasonSet.isEmpty_iff _).mp stands), (ReasonSet.isEmpty_iff _).mpr e⟩

theorem reasonRemoved (r : PauseReason) (s : State) : ReasonRemoved r s (removeReason r s) :=
  ⟨removeReason_leaves, fun st stands e => ⟨removeReason_last st stands e ▸ pauseLeft st, removeReason_kept r s⟩⟩

/-! ### Pauses beside a receive condition -/

theorem PourPauses.setRx (q : PourPauses ret w u) : PourPauses ret (w.setRx p x) (u.setRx p x) :=
  ⟨q.sched, q.pour, q.spout, q.axes, q.orders, q.queues, q.lastHold⟩

theorem PauseLeft.setRx (q : PauseLeft w u) : PauseLeft (w.setRx p x) (u.setRx p x) := by
  have he := travelEnds_setRx p x
  obtain ⟨seen, unseen⟩ := q
  refine ⟨fun m k => (seen m k).setRx he, fun m => ?_⟩
  obtain ⟨travels, feeds⟩ := unseen m
  refine ⟨fun k => ?_, fun h ph => ?_⟩
  · obtain ⟨raises, lowers, traverses⟩ := travels k
    exact ⟨fun e => (raises e).setRx he, fun e => (lowers e).setRx he,
      fun e i hi => ⟨fun c => ((traverses e i hi).1 c).setRx he, fun c => ((traverses e i hi).2 c).setRx he⟩⟩
  · obtain ⟨pours, drains⟩ := feeds h ph
    exact ⟨fun k => congrArg (State.setRx p x) (pours k), fun k => (drains k).setRx⟩

end Sys2Proof.Machine
end

section
/-! The requests that pause a pour and let it go on: PAUSE, CONTINUE, HOLD FEED and RELEASE FEED (R65, R66), TAKE MANUAL and RELEASE
MANUAL (R101, R102). -/

set_option Elab.async false

namespace Sys2Proof.Machine

variable {s w u v : State} {p : Port} {r : PauseReason} {i : Instr}

/-- A request whose owner keeps what `Kept` lists but for writes of its own, which have made `w` of the state. -/
theorem request_kept {owner : State → Taken} {items : List Byte} (ht : s.takes p) (e : owner (idlePort p s) = .done v items)
    (k : Kept (idlePort p w) v) (wf : i.wellFormed = true := by rfl) (a : permitted p i.requestCode = true := by rfl)
    (l : i.requestCode.toNat < 0x80 := by exact of_decide_eq_true rfl) :
    Kept w (restoreRx p w v) ∧ request i p owner s = .next ((restoreRx p w v).answered p i.requestCode .done items) := by
  obtain ⟨kept, replies⟩ := reply_of_kept i.requestCode .done items l k
  exact ⟨kept, by rw [request_taken ht wf a, e]; exact congrArg Host.Outcome.next replies⟩

theorem PourPauses.restored {ret : ReturnState} (q : PourPauses ret (idlePort p w) v) : PourPauses ret w (restoreRx p w v) := by
  have r := q.setRx (p := p) (x := (w.port p).rx)
  rwa [setRx_idlePort] at r

theorem PauseLeft.restored (q : PauseLeft (idlePort p w) v) : PauseLeft w (restoreRx p w v) := by
  have r := q.setRx (p := p) (x := (w.port p).rx)
  rwa [setRx_idlePort] at r

theorem removeReason_empties (st : s.sched.state = .paused) (stands : s.pour.reasons ≠ ⟨false, false, false, false⟩)
    (e : s.pour.reasons.put r false = ⟨false, false, false, false⟩) :
    removeReason r s = leavePause { s with pour.reasons := ⟨false, false, false, false⟩ } := by
  rw [removeReason_last st stands e, e]

/-! ### The requested reasons (R65, R66) -/

theorem takeReason_closed {b : Bool} (v : s.vesselOpen = false) : takeReason r b s = .refuse s .state := by
  simp [takeReason, whileOpen, v]

theorem takeReason_adds (v : s.vesselOpen = true) :
    takeReason r true s = .done (addReason r s) (s.pour.reasons.put r true).byte := by
  simp [takeReason, whileOpen, v, (addReason_kept r s).reasons]

theorem takeReason_removes (v : s.vesselOpen = true) :
    takeReason r false s = .done (removeReason r s) (s.pour.reasons.put r false).byte := by
  simp [takeReason, whileOpen, v, (removeReason_kept r s).reasons]

/-- A request of a port that adds or removes a pause reason. -/
structure ReasonRequest (r : PauseReason) (b : Bool) (p : Port) (i : Instr) (code : Byte) : Prop where
  run : ∀ s, exec i s = request i p (takeReason r b) s := by exact fun _ => rfl
  is : i.requestCode = code := by rfl
  wellFormed : i.wellFormed = true := by rfl
  may : permitted p i.requestCode = true := by rfl
  low : i.requestCode.toNat < 0x80 := by exact of_decide_eq_true rfl

section
variable {b : Bool} {code : Byte}

theorem ReasonRequest.closed (q : ReasonRequest r b p i code) (ht : s.takes p) (v : s.vesselOpen = false) :
    exec i s = .next (s.answered p code .state) := by
  rw [q.run, ← q.is]
  exact request_refused ht (takeReason_closed (s := idlePort p s) v) q.wellFormed q.may q.low

theorem ReasonRequest.joins (q : ReasonRequest r true p i code) (ht : s.takes p) (v : s.vesselOpen = true) (n : r ≠ .manual)
    (c : s.sched.state ≠ .travelling ∧ s.sched.state ≠ .pouring ∨ s.pour.reasons ≠ ⟨false, false, false, false⟩) :
    exec i s = .next ({ s with pour.reasons := s.pour.reasons.put r true }.answered p code .done
      (s.pour.reasons.put r true).byte) := by
  rw [q.run, ← q.is]
  refine request_answered ht ?_ q.wellFormed q.may q.low
  rw [takeReason_adds (s := idlePort p s) v, addReason_joins (s := idlePort p s) c (.inr n)]
  rfl

theorem ReasonRequest.pauses {ret : ReturnState} (q : ReasonRequest r true p i code) (ht : s.takes p) (v : s.vesselOpen = true)
    (st : (s.sched.state = .travelling ∧ ret = .travelling) ∨ (s.sched.state = .pouring ∧ ret = .pouring))
    (e : s.pour.reasons = ⟨false, false, false, false⟩) :
    ∃ u, Kept { s with pour.reasons := s.pour.reasons.put r true } u ∧
      PourPauses ret { s with pour.reasons := s.pour.reasons.put r true } u ∧
      exec i s = .next (u.answered p code .done (s.pour.reasons.put r true).byte) := by
  have first : PourPauses ret (idlePort p { s with pour.reasons := s.pour.reasons.put r true }) (addReason r (idlePort p s)) :=
    addReason_first (s := idlePort p s) st e
  obtain ⟨kept, run⟩ := request_kept (w := { s with pour.reasons := s.pour.reasons.put r true }) ht
    (takeReason_adds (s := idlePort p s) v) (addReason_kept r (idlePort p s)) q.wellFormed q.may q.low
  rw [q.run, ← q.is]
  exact ⟨_, kept, first.restored, run⟩

theorem ReasonRequest.leaves (q : ReasonRequest r false p i code) (ht : s.takes p) (v : s.vesselOpen = true)
    (c : s.sched.state ≠ .paused ∨ s.pour.reasons.put r false ≠ ⟨false, false, false, false⟩) :
    exec i s = .next ({ s with pour.reasons := s.pour.reasons.put r false }.answered p code .done
      (s.pour.reasons.put r false).byte) := by
  rw [q.run, ← q.is]
  refine request_answered ht ?_ q.wellFormed q.may q.low
  rw [takeReason_removes (s := idlePort p s) v, removeReason_leaves (s := idlePort p s) (c.imp_right .inr)]
  rfl

theorem ReasonRequest.goesOn (q : ReasonRequest r false p i code) (ht : s.takes p) (v : s.vesselOpen = true)
    (st : s.sched.state = .paused) (stands : s.pour.reasons ≠ ⟨false, false, false, false⟩)
    (e : s.pour.reasons.put r false = ⟨false, false, false, false⟩) :
    ∃ t u, t = { s with pour.reasons := ⟨false, false, false, false⟩ } ∧ PauseLeft t u ∧ Kept t u ∧
      exec i s = .next (u.answered p code .done [0]) := by
  have left : takeReason r false (idlePort p s) =
      .done (leavePause (idlePort p { s with pour.reasons := ⟨false, false, false, false⟩ })) [0] := by
    rw [takeReason_removes (s := idlePort p s) v, removeReason_empties (s := idlePort p s) st stands e,
      show (idlePort p s).pour.reasons.put r false = _ from e]
    rfl
  have goes := pauseLeft (s := idlePort p { s with pour.reasons := ⟨false, false, false, false⟩ }) st
  obtain ⟨kept, run⟩ := request_kept (w := { s with pour.reasons := ⟨false, false, false, false⟩ }) ht left (leavePause_kept _)
    q.wellFormed q.may q.low
  rw [q.run, ← q.is]
  exact ⟨_, _, rfl, goes.restored, kept, run⟩

end

/-- Settles O40: the request by what it adds or removes, then by whether that pauses the pour or lets it go on. -/
theorem pauseReasonsGoverned : Obligations.PauseReasonsGoverned := by
  unfold Obligations.PauseReasonsGoverned
  intro s r p add drop ca cd hi ht
  have requests : r ≠ .manual ∧ ReasonRequest r true p add ca ∧ ReasonRequest r false p drop cd := by
    rcases hi with ⟨rfl, rfl, rfl, rfl, rfl, rfl⟩ | ⟨rfl, rfl, rfl, rfl, rfl, rfl⟩ <;> exact ⟨nofun, {}, {}⟩
  obtain ⟨n, adds, drops⟩ := requests
  exact ⟨fun v => ⟨adds.closed ht v, drops.closed ht v⟩,
    fun v => ⟨adds.joins ht v n, fun _ => adds.pauses ht v, drops.leaves ht v, drops.goesOn ht v⟩⟩

/-! ### The authority (R101, R102) -/

/-- TAKE MANUAL outside POURING and DRAINING under AUTO (R101). -/
theorem takeTakeManual_auto (auto : s.spout.manual = false) (n : s.sched.state ≠ .pouring) (m : s.sched.state ≠ .draining) :
    takeTakeManual s = .done (addReason .manual { s with spout.manual := true }) [1] := by
  have manual : (addReason .manual { s with spout.manual := true }).spout.manual = true := (addReason_kept ..).manual
  rw [takeTakeManual, if_neg (by rintro (e | e) <;> contradiction), if_neg (by rw [auto]; nofun)]
  dsimp only
  rw [authorityReport, manual]
  rfl

theorem takeReleaseManual_manual (manual : s.spout.manual = true) :
    takeReleaseManual s = .done (removeReason .manual { stopAxes s with spout.manual := false }) [0] := by
  have auto : (removeReason .manual { stopAxes s with spout.manual := false }).spout.manual = false :=
    (removeReason_kept ..).manual
  rw [takeReleaseManual, if_pos manual]
  dsimp only
  rw [authorityReport, auto]
  rfl

/-- Settles O44: each request by the authority and the state of the scheduler, the reason MANUAL with it. -/
theorem authorityTaken : Obligations.AuthorityTaken := by
  unfold Obligations.AuthorityTaken
  intro s ht
  refine ⟨fun st => request_refused ht ?_, fun manual n m => request_answered ht ?_, fun auto idle => request_answered ht ?_,
    fun auto st => request_answered ht ?_, fun auto st e => ?_, fun auto => request_answered ht ?_,
    fun manual c => request_answered ht ?_, fun manual st e => ?_⟩
  · exact if_pos st
  · rw [takeTakeManual, if_neg (by rintro (e | e) <;> contradiction), if_pos (by exact manual), authorityReport,
      show (idlePort .cab s).spout.manual = true from manual]
    rfl
  · have no : ∀ st : SchedState, st.isPour = true → s.sched.state ≠ st := by rintro st q rfl; rw [q] at idle; cases idle
    rw [takeTakeManual_auto (s := idlePort .cab s) auto (no _ rfl) (no _ rfl),
      addReason_joins (s := { idlePort .cab s with spout.manual := true }) (.inl ⟨no _ rfl, no _ rfl⟩) (.inl (no _ rfl))]
    rfl
  · rw [takeTakeManual_auto (s := idlePort .cab s) auto (by exact st ▸ nofun) (by exact st ▸ nofun),
      addReason_manual (s := { idlePort .cab s with spout.manual := true }) st]
    rfl
  · let w : State := { s with spout.manual := true, pour.reasons.manual := true }
    let v : State := { idlePort .cab s with spout.manual := true }
    have first : PourPauses .travelling (idlePort .cab w) (addReason .manual v) :=
      addReason_first (r := .manual) (s := v) (.inl ⟨st, rfl⟩) e
    obtain ⟨kept, run⟩ := request_kept (i := .takeManual .cab) (w := w) ht
      (takeTakeManual_auto (s := idlePort .cab s) auto (by exact st ▸ nofun) (by exact st ▸ nofun)) (addReason_kept .manual v)
    exact ⟨_, kept, first.restored, run⟩
  · rw [takeReleaseManual, if_neg (by exact auto ▸ nofun), authorityReport, show (idlePort .cab s).spout.manual = false from auto]
    rfl
  · rw [takeReleaseManual_manual (s := idlePort .cab s) manual,
      removeReason_leaves (r := .manual) (s := { stopAxes (idlePort .cab s) with spout.manual := false }) (c.imp_right .inr)]
    rfl
  · let w : State := { s with
      spout.manual := false
      pour.reasons := ⟨false, false, false, false⟩
      axes := s.axes.map (AxisRec.halt s.now) }
    have left : takeReleaseManual (idlePort .cab s) = .done (leavePause (idlePort .cab w)) [0] := by
      rw [takeReleaseManual_manual (s := idlePort .cab s) manual,
        removeReason_empties (s := { stopAxes (idlePort .cab s) with spout.manual := false }) st (by exact e ▸ nofun)
          (by exact e ▸ rfl)]
      rfl
    have goes := pauseLeft (s := idlePort .cab w) st
    obtain ⟨kept, run⟩ := request_kept (i := .releaseManual .cab) (w := w) ht left (leavePause_kept _)
    exact ⟨w, _, rfl, goes.restored, kept, run⟩

end Sys2Proof.Machine
end

section
/-! A dust sample and a stale expiry (R150 to R153, R156 to R159): the stages of what a channel's event hands on, and the choke's change in
the terms of Safety.lean. -/

set_option Elab.async false

namespace Sys2Proof.Machine

variable {s t u v w : State} {c : Channel} {i : Instr}

/-! ### The choke (R97, R100, R156) -/

theorem tracked (w : State) : Tracked w (track w) :=
  ⟨fun n m => if_neg fun e => e.elim n m, fun st _ ph => track_feeding st ph⟩

theorem lowerRetaken (w : State) : LowerRetaken w (settle (retakeLower w)) := by
  intro h ph
  have moved : lowerMove w = { w with axes.spout := w.given .spout .graded (w.pourHeight h) } := by
    unfold lowerMove
    rw [ph]
    exact moveAxis_given ..
  have again : settle (retakeLower w) = resolve travelComplete
      (if some (w.pourHeight h) = w.axes.spout.target then (w, false) else checkLower (lowerMove w)) := by
    unfold retakeLower
    rw [ph]
    rfl
  rw [again]
  refine ⟨fun same => by rw [if_pos same.symm]; rfl, fun differ => ?_⟩
  rw [if_neg (Ne.symm differ), moved]
  obtain ⟨goes, done⟩ := resolve_checkLower travelComplete
    { w with axes.spout := w.given .spout .graded (w.pourHeight h) }
  exact ⟨goes, fun e => (done e).symm ▸ travelEnds _⟩

/-- With no phase in progress a recompute tracks (R97). -/
theorem recomputeTravel_tracks (b : Bool) (c : w.spout.cond = none ∨ w.spout.cond = some .abandoned) :
    recomputeTravel b w = (track w, false) := by
  unfold recomputeTravel
  rcases c with c | c <;> rw [c] <;> cases w.spout.phase <;> rfl

theorem chokeChanged (w : State) : ChokeChanged w (settle (recomputeTravel true w)) := by
  refine ⟨fun c => ?_, fun p c => ?_, fun p c => ?_, fun p c => ?_⟩
  · rw [recomputeTravel_tracks true c]
    exact tracked w
  · unfold recomputeTravel
    rcases c with c | c <;> rw [p, c] <;> rfl
  · unfold recomputeTravel
    rw [p, c]
    rfl
  · have lower : recomputeTravel true w = retakeLower w := by unfold recomputeTravel; rw [p, c]
    rw [lower]
    exact lowerRetaken w

/-! ### The stages of what an event on a channel hands on (R153) -/

theorem entersStop_eq (a b : Level) : entersStop a b = (decide (a ≠ .stop) && decide (b = .stop)) := by
  cases a <;> cases b <;> rfl

theorem crossesWarn_iff (a b : Level) : crossesWarn a b = true ↔ ¬(a = .warn ↔ b = .warn) := by
  cases a <;> cases b <;> simp [crossesWarn]

theorem beaconOn_iff (s : State) : s.beaconOn = true ↔ ∃ k, s.level k ≠ .normal := by
  simp only [State.beaconOn, Bool.or_eq_true, bne_iff_ne]
  constructor
  · rintro (((((e | e) | e) | e) | e) | e) <;> exact ⟨_, e⟩
  · rintro ⟨k, e⟩
    cases k <;> simp [e]

/-- The lockout that HEAD's entry into STOP places or restarts (R154, R155). -/
def lockoutStage (c : Channel) (level : Level) (s : State) : State :=
  if c = .head ∧ entersStop level (s.level c) = true then headStops s else s

/-- The travel or the tracking that HEAD retakes where it enters or leaves WARN (R156). -/
def chokeStage (c : Channel) (level after : Level) (s : State) : State :=
  if c = .head ∧ crossesWarn level after = true then settle (recomputeTravel true s) else s

theorem lockoutStage_kept (c : Channel) (level : Level) (s : State) :
    ∃ holds, Kept { s with holds := holds } (lockoutStage c level s) := by
  unfold lockoutStage
  split
  · exact headStops_kept s
  · exact ⟨_, Kept.refl s⟩

theorem chokeStage_kept (c : Channel) (level after : Level) (s : State) : Kept s (chokeStage c level after s) := by
  unfold chokeStage
  split
  · exact settle_kept _ (recomputeTravel_kept true s)
  · exact Kept.refl s

theorem Kept.putDust (k : Kept s t) (b : Bool) :
    Kept { s with pour.reasons.dust := b } { t with pour.reasons.dust := b } :=
  { k with reasons := congrArg (fun r : ReasonSet => { r with dust := b }) k.reasons }

theorem Kept.dustPlant (k : Kept s t) : t.dustPlant = s.dustPlant := by simp only [State.dustPlant, k.level]

theorem Kept.beaconOn (k : Kept s t) : t.beaconOn = s.beaconOn := by simp only [State.beaconOn, k.level]

/-- The state after the three stages that may end, pause or move a pour. -/
def dustStages (c : Channel) (level : Level) (s : State) : State :=
  formDustPlant (chokeStage c level (s.level c) (lockoutStage c level s))

theorem dustStages_kept (c : Channel) (level : Level) (s : State) :
    ∃ holds, Kept { s with holds := holds, pour.reasons.dust := s.dustPlant } (dustStages c level s) := by
  obtain ⟨holds, locked⟩ := lockoutStage_kept c level s
  have choked := locked.trans (chokeStage_kept c level (s.level c) _)
  have formed := (choked.putDust s.dustPlant).trans (choked.dustPlant ▸ formDustPlant_kept _)
  exact ⟨holds, formed⟩

/-- What an event on a channel hands on, as its stages and then the outputs (R153, R158, R159). -/
theorem handOn_eq (c : Channel) (before : ChannelState) (level : Level) (s : State) :
    handOn c before level s =
      let u : State := { dustStages c level s with
        dust.beacon := s.beaconOn, dust.hornOn := s.dust.hornOn || entersStop level (s.level c) }
      if (s.channel c).state = before then u else raise .dust u := by
  obtain ⟨holds, k⟩ := dustStages_kept c level s
  have beacon : (dustStages c level s).beaconOn = s.beaconOn := k.beaconOn
  have horn : (dustStages c level s).dust.hornOn = s.dust.hornOn := by rw [k.dust]
  have staged : handOn c before level s =
      let w := dustStages c level s
      let x : State := { w with dust.beacon := w.beaconOn }
      let y := if entersStop level (s.level c) then { x with dust.hornOn := true } else x
      if (s.channel c).state = before then y else raise .dust y := rfl
  rw [staged]
  dsimp only
  rw [beacon]
  generalize dustStages c level s = w at horn ⊢
  cases entersStop level (s.level c)
  · rw [← horn, Bool.or_false]; rfl
  · rw [Bool.or_true]; rfl

theorem raise_flagged (f : EventFlag) (s : State) : (raise f s).flagged f := by
  intro p
  rw [State.port, raise, PerPort.get_map]
  refine BitVec.eq_of_getLsbD_eq fun j _ => ?_
  simp only [PortRec.withFlags, PortRec.refresh, BitVec.getLsbD_and, BitVec.getLsbD_or]
  cases f.bit.getLsbD j <;> simp

theorem handOn_outputs (c : Channel) (before : ChannelState) (level : Level) (s : State) :
    (∃ ports, handOn c before level s = { dustStages c level s with
      dust.beacon := s.beaconOn, dust.hornOn := s.dust.hornOn || entersStop level (s.level c), ports := ports }) ∧
      ((s.channel c).state ≠ before → (handOn c before level s).flagged .dust) := by
  rw [handOn_eq]
  dsimp only
  split
  · next e => exact ⟨⟨_, rfl⟩, absurd e⟩
  · exact ⟨⟨_, rfl⟩, fun _ => raise_flagged .dust _⟩

/-! ### The events (R150 to R152) -/

/-- Instruction `i` is a sample arrival or a stale expiry of channel `c`, and `t` is the state with the channel's record after it. -/
def State.ChannelEvent (s t : State) (c : Channel) (i : Instr) : Prop :=
  (∃ v : BitVec 16, i = .dustSampleArrival c v ∧
      t = s.setChannel c ((s.channel c).after (s.settings.channels.get c) s.now v.toNat)) ∨
    (∃ d, (s.channel c).staleAt = some d ∧ i = .dustStaleExpiry c ∧
      t = { s with now := max s.now d }.setChannel c
        { s.channel c with state := .fault, up := 0, down := 0, staleAt := none, reason := some .stale })

/-- What the writing of a channel's record leaves alone. -/
structure ChannelWritten (s t : State) : Prop where
  hornOn : t.dust.hornOn = s.dust.hornOn := by rfl
  sched : t.sched = s.sched := by rfl
  pour : t.pour = s.pour := by rfl
  belt : t.belt = s.belt := by rfl
  weigh : t.weigh = s.weigh := by rfl
  lots : t.lots = s.lots := by rfl
  bank : t.bank = s.bank := by rfl
  settings : t.settings = s.settings := by rfl
  suspension : t.suspension = s.suspension := by rfl
  inputs : t.inputs = s.inputs := by rfl
  pending : t.pending = s.pending := by rfl

theorem State.ChannelEvent.written (e : s.ChannelEvent t c i) : ChannelWritten s t := by
  rcases e with ⟨v, -, rfl⟩ | ⟨d, -, -, rfl⟩ <;> exact {}

theorem State.ChannelEvent.exec (e : s.ChannelEvent t c i) (nr : s.inReset = false) :
    exec i s = .next (handOn c (s.channel c).state (s.level c) t) := by
  rcases e with ⟨v, rfl, rfl⟩ | ⟨d, stale, rfl, rfl⟩
  · refine (event_taken nr).trans ?_
    rw [← ChannelRec.sampled_eq]
    rfl
  · refine (event_taken nr).trans ?_
    simp only [channelStale, stale]
    rfl

theorem channelStale_stopped (e : (s.channel c).staleAt = none) : channelStale c s = s := by
  simp only [channelStale, e]

theorem Belt.eq_but_lastHold {a b : Belt} (records : a.records = b.records) (counter : a.counter = b.counter)
    (lastSpill : a.lastSpill = b.lastSpill) : a = { b with lastHold := a.lastHold } := by
  cases a; cases b; simp_all

theorem of_head {P : Channel → Prop} (h : c ≠ .head ∨ P .head) : c ≠ .head ∨ P c := by
  by_cases e : c = .head
  · subst e; exact h
  · exact .inl e

/-! ### The pour that DUST_PLANT pauses (R67, R68) -/

theorem lockoutStage_none {level : Level} (n : c ≠ .head ∨ level = .stop ∨ s.level c ≠ .stop) : lockoutStage c level s = s := by
  refine if_neg ?_
  rintro ⟨hc, enters⟩
  rw [entersStop_eq, Bool.and_eq_true, decide_eq_true_eq, decide_eq_true_eq] at enters
  rcases n with n | n | n
  · exact n hc
  · exact enters.1 n
  · exact n enters.2

theorem chokeStage_none {level after : Level} (n : c ≠ .head ∨ (level = .warn ↔ after = .warn)) :
    chokeStage c level after s = s := by
  refine if_neg ?_
  rintro ⟨hc, crosses⟩
  exact n.elim (absurd hc) ((crossesWarn_iff ..).mp crosses)

theorem chokeStage_head {level after : Level} (hc : c = .head) (n : ¬(level = .warn ↔ after = .warn)) :
    chokeStage c level after s = settle (recomputeTravel true s) :=
  if_pos ⟨hc, (crossesWarn_iff ..).mpr n⟩

theorem dustStages_plant {level : Level} (n : c ≠ .head) : dustStages c level s = formDustPlant s := by
  rw [dustStages, lockoutStage_none (.inl n), chokeStage_none (.inl n)]

/-- DUST_PLANT that begins in POURING with no reason standing pauses the pour (R67, R68). -/
theorem formDustPlant_pauses (on : s.dustPlant = true) (e : s.pour.reasons = ⟨false, false, false, false⟩)
    (st : s.sched.state = .pouring) :
    PourPauses .pouring { s with pour.reasons := s.pour.reasons.put .dust true } (formDustPlant s) := by
  unfold formDustPlant
  rw [on, show s.pour.reasons.dust = false by rw [e]]
  exact addReason_first (.inr ⟨st, rfl⟩) e

/-- The reason DUST_PLANT follows its condition (R67 to R70, R157). -/
theorem formDustPlant_follows (s : State) :
    (s.dustPlant = s.pour.reasons.dust → formDustPlant s = s) ∧
      (s.dustPlant = true → s.pour.reasons.dust = false → ReasonAdded .dust s (formDustPlant s)) ∧
      (s.dustPlant = false → s.pour.reasons.dust = true → ReasonRemoved .dust s (formDustPlant s)) := by
  unfold formDustPlant
  refine ⟨fun same => ?_, fun on none_ => ?_, fun off stands => ?_⟩
  · rw [same]
    cases s.pour.reasons.dust <;> rfl
  · rw [on, none_]
    exact reasonAdded .dust s
  · rw [off, stands]
    exact reasonRemoved .dust s

/-- Settles O55: the event writes the channel's record and hands it on; the stages that act are told by the levels. -/
theorem samplesClassified : Obligations.SamplesClassified := by
  unfold Obligations.SamplesClassified
  intro s t c i nr hi
  have event : s.ChannelEvent t c i := hi
  have run := event.exec nr
  have f := event.written
  refine ⟨?_, fun n => ?_, fun e => (event_taken nr).trans (congrArg _ (channelStale_stopped e))⟩
  · obtain ⟨⟨ports, out⟩, flagged⟩ := handOn_outputs c (s.channel c).state (s.level c) t
    obtain ⟨holds, k⟩ := dustStages_kept c (s.level c) t
    have belt := Belt.eq_but_lastHold (k.records.trans (congrArg _ f.belt)) (k.counter.trans (congrArg _ f.belt))
      (k.lastSpill.trans (congrArg _ f.belt))
    have channels := congrArg Dust.channels k.dust
    have dust := congrArg ReasonSet.dust k.reasons
    have cab : (dustStages c (s.level c) t).pour.reasons.cab = s.pour.reasons.cab := by rw [k.reasons, ← f.pour]
    have ship : (dustStages c (s.level c) t).pour.reasons.ship = s.pour.reasons.ship := by rw [k.reasons, ← f.pour]
    have manual : (dustStages c (s.level c) t).pour.reasons.manual = s.pour.reasons.manual := by rw [k.reasons, ← f.pour]
    rw [out] at run flagged
    refine ⟨_, run, k.now, channels, beaconOn_iff t, ?_, ?_, cab, ship, manual, flagged,
      fun n stop e st => ?_, belt, k.weigh.trans f.weigh, k.lots.trans f.lots, k.bank.trans f.bank, k.settings.trans f.settings,
      k.suspension.trans f.suspension, k.inputs.trans f.inputs, k.pending.trans f.pending⟩
    · exact congrArg₂ or f.hornOn (entersStop_eq ..)
    · exact (Bool.eq_iff_iff.mp dust).trans (dustPlant_iff t)
    · have q : PourPauses .pouring { t with pour.reasons := t.pour.reasons.put .dust true } (dustStages c (s.level c) t) := by
        rw [dustStages_plant n]
        exact formDustPlant_pauses ((dustPlant_iff t).mpr ⟨c, n, stop⟩) (by rw [f.pour, e]) (by rw [f.sched, st])
      exact ⟨congrArg Sched.state q.sched, congrArg Pour.returnState q.pour, congrArg Pour.runLine q.pour⟩
  · have unlocked : lockoutStage c (s.level c) t = t :=
      lockoutStage_none (of_head (P := fun c => s.level c = .stop ∨ t.level c ≠ .stop) n)
    have k := chokeStage_kept c (s.level c) (t.level c) t
    have plant : (chokeStage c (s.level c) (t.level c) t).dustPlant = t.dustPlant := k.dustPlant
    have stood : (chokeStage c (s.level c) (t.level c) t).pour.reasons.dust = s.pour.reasons.dust := by rw [k.reasons, f.pour]
    have staged : dustStages c (s.level c) t = formDustPlant (chokeStage c (s.level c) (t.level c) t) := by
      rw [dustStages, unlocked]
    obtain ⟨stays, begins, ends⟩ := formDustPlant_follows (chokeStage c (s.level c) (t.level c) t)
    rw [← staged, plant, stood] at stays begins ends
    refine ⟨_, _, t.dustPlant, t.beaconOn, dustPlant_iff t, beaconOn_iff t,
      fun e => chokeStage_none (of_head (P := fun c => s.level c = .warn ↔ t.level c = .warn) e), fun hc e => ?_,
      stays, begins, ends, _, rfl, ?_⟩
    · subst hc
      rw [chokeStage_head rfl e]
      exact ⟨chokeChanged t, settle_kept _ (recomputeTravel_kept true t)⟩
    · rw [run, handOn_eq, entersStop_eq, f.hornOn]

end Sys2Proof.Machine
end

section
/-! The law of the traverse (R94, R95, R106) through the travel operations and through the operations that begin, feed, pause and end a
pour. `Eases` says what keeps it whatever the travel in hand; a phase begins from axes that stand still. -/

set_option Elab.async false

namespace Sys2Proof.Machine

variable {s t u : State}

/-! ### What the law speaks of -/

/-- Neither GANTRY nor REACH is MOVING. -/
structure Still (s : State) : Prop where
  gantry : s.axes.gantry.state ≠ .moving
  reach : s.axes.reach.state ≠ .moving

/-- The spout record and the SPOUT position are as they were, and neither GANTRY nor REACH has begun to move. -/
structure Eases (s t : State) : Prop where
  spout : t.spout = s.spout := by rfl
  position : t.axes.spout.position = s.axes.spout.position := by rfl
  gantry : t.axes.gantry.state = .moving → s.axes.gantry.state = .moving := by exact id
  reach : t.axes.reach.state = .moving → s.axes.reach.state = .moving := by exact id

theorem Eases.refl (s : State) : Eases s s := {}

theorem Eases.trans (a : Eases s t) (b : Eases t u) : Eases s u where
  spout := b.spout.trans a.spout
  position := b.position.trans a.position
  gantry := a.gantry ∘ b.gantry
  reach := a.reach ∘ b.reach

theorem Eases.still (c : Eases s t) (h : Still s) : Still t := ⟨mt c.gantry h.gantry, mt c.reach h.reach⟩

theorem Eases.traverseLaw (c : Eases s t) (h : TraverseLaw s) : TraverseLaw t := by
  obtain ⟨high, moves⟩ := h
  refine ⟨?_, ?_⟩
  · rw [c.spout, c.position]; exact high
  · rw [c.spout]
    exact fun auto m => moves auto (m.imp c.gantry c.reach)

theorem Eases.of_axes (spout : t.spout = s.spout := by rfl) (axes : t.axes = s.axes := by rfl) : Eases s t :=
  { spout, position := by rw [axes], gantry := by rw [axes]; exact id, reach := by rw [axes]; exact id }

/-- With no traverse in progress the law asks only that GANTRY and REACH stand still under AUTO (R106). -/
theorem TraverseLaw.of_still (n : s.spout.phase = .traverse → s.spout.cond ≠ some .inProgress)
    (still : s.spout.manual = false → Still s) : TraverseLaw s :=
  ⟨fun p c => absurd c (n p), fun auto m => by
    obtain ⟨gantry, reach⟩ := still auto
    rcases m with m | m <;> contradiction⟩

theorem TraverseLaw.still (h : TraverseLaw s) (n : s.spout.phase = .traverse → s.spout.cond ≠ some .inProgress)
    (auto : s.spout.manual = false) : Still s := by
  exact ⟨fun m => (h.2 auto (.inl m)).elim n, fun m => (h.2 auto (.inr m)).elim n⟩

/-! ### Stops and moves -/

theorem AxisRec.halt_not_moving (now : Time) (r : AxisRec) : (r.halt now).state ≠ .moving := by
  unfold AxisRec.halt
  split
  · nofun
  all_goals
    next e =>
    rw [e]; nofun

theorem stopAxes_still (s : State) : Still (stopAxes s) := ⟨AxisRec.halt_not_moving s.now _, AxisRec.halt_not_moving s.now _⟩

theorem stopTraverse_still (s : State) : Still (stopTraverse s) :=
  ⟨AxisRec.halt_not_moving s.now _, AxisRec.halt_not_moving s.now _⟩

theorem stopAxes_eases (s : State) : Eases s (stopAxes s) where
  position := ((stopAxes_kept s).axis .spout).position
  gantry m := absurd m (stopAxes_still s).gantry
  reach m := absurd m (stopAxes_still s).reach

theorem moveSpout_eases (k : MoveKind) (x : Int) (s : State) : Eases s (moveAxis .spout k x s) := by
  rw [moveAxis_given]
  exact { position := given_position .. }

theorem track_eases (s : State) : Eases s (track s) := by
  unfold track; split
  · split
    · exact moveSpout_eases ..
    · exact .refl s
  · exact .refl s

theorem moveTo_spout (a : Axis) (x : Option Int) (s : State) : (moveTo a x s).spout = s.spout := by
  unfold moveTo; split
  · exact moveAxis_spout ..
  · rfl

/-! ### The phases (R92 to R96) -/

/-- LOWER takes GANTRY and REACH standing still, and neither its going on nor its end moves them (R96). -/
theorem checkLower_traverseLaw (still : Still s) (n : s.spout.phase ≠ .traverse) : TraverseLaw (checkLower s).1 := by
  unfold checkLower; split
  · exact .of_still nofun fun _ => ⟨still.gantry, still.reach⟩
  · exact .of_still (fun p => absurd p n) fun _ => still

theorem lowerMove_eases (s : State) : Eases s (lowerMove s) := by
  unfold lowerMove; split
  · exact moveSpout_eases ..
  · exact .refl s

theorem beginLower_traverseLaw (still : Still s) : TraverseLaw (beginLower s).1 := by
  have c := lowerMove_eases { s with spout.phase := .lower, spout.cond := some .inProgress }
  exact checkLower_traverseLaw (c.still ⟨still.gantry, still.reach⟩) (by rw [c.spout]; nofun)

theorem checkTraverse_traverseLaw (h : TraverseLaw s) : TraverseLaw (checkTraverse s).1 := by
  unfold checkTraverse; split
  · next e => exact beginLower_traverseLaw ⟨by rw [e.1]; nofun, by rw [e.2]; nofun⟩
  · exact h

theorem spoutClear_iff (s : State) :
    s.spoutClear = true ↔ ∃ z x, s.spout.height = some z ∧ s.axes.spout.position = some x ∧ z ≤ x := by
  unfold State.spoutClear State.spoutAtOrAbove
  cases s.spout.height <;> cases s.axes.spout.position <;> simp

/-- TRAVERSE begins with the SPOUT clear of the travel height (R93, R94). -/
theorem beginTraverse_traverseLaw (auto : s.spout.manual = false) (clear : s.spoutClear = true) :
    TraverseLaw (beginTraverse s).1 := by
  let t : State := { s with spout.phase := .traverse, spout.cond := some .inProgress }
  let w := moveTo .reach s.spout.spotY (moveTo .gantry s.spout.spotX t)
  have spout : w.spout = t.spout := (moveTo_spout ..).trans (moveTo_spout ..)
  have position : w.axes.spout.position = s.axes.spout.position :=
    (((moveTo_kept .gantry s.spout.spotX t).trans (moveTo_kept .reach s.spout.spotY _)).axis .spout).position
  have under : TraverseLaw w := by
    refine ⟨?_, ?_⟩
    · rw [spout, position]; exact fun _ _ => ⟨auto, (spoutClear_iff s).mp clear⟩
    · rw [spout]; exact fun _ _ => ⟨rfl, rfl⟩
  exact checkTraverse_traverseLaw under

theorem checkRaise_traverseLaw (auto : s.spout.manual = false) (still : Still s) (n : s.spout.phase ≠ .traverse) :
    TraverseLaw (checkRaise s).1 := by
  unfold checkRaise; split
  · split
    · next clear => exact beginTraverse_traverseLaw auto clear
    · exact .of_still nofun fun _ => ⟨still.gantry, still.reach⟩
  · exact .of_still (fun p => absurd p n) fun _ => still

theorem raiseMove_traverseLaw (auto : s.spout.manual = false) (still : Still s) (n : s.spout.phase ≠ .traverse) :
    TraverseLaw (raiseMove s).1 := by
  have c := moveSpout_eases .graded s.raiseTarget { s with spout.cond := some .inProgress }
  exact checkRaise_traverseLaw (by rw [c.spout]; exact auto) (c.still ⟨still.gantry, still.reach⟩) (by rw [c.spout]; exact n)

theorem beginRaise_traverseLaw (auto : s.spout.manual = false) (still : Still s) : TraverseLaw (beginRaise s).1 := by
  unfold beginRaise; dsimp only; split
  · next clear => exact beginTraverse_traverseLaw auto clear
  · exact raiseMove_traverseLaw auto ⟨still.gantry, still.reach⟩ nofun

theorem retakeRaise_traverseLaw (auto : s.spout.manual = false) (still : Still s) (n : s.spout.phase ≠ .traverse) :
    TraverseLaw (retakeRaise s).1 := by
  unfold retakeRaise; dsimp only; split
  · next clear => exact beginTraverse_traverseLaw auto clear
  · split
    · exact .of_still (fun p => absurd p n) fun _ => ⟨still.gantry, still.reach⟩
    · exact raiseMove_traverseLaw auto ⟨still.gantry, still.reach⟩ n

/-- The check of the travel height leaves the SPOUT above it, or has GANTRY and REACH stopped for a new RAISE, whatever the position
was before (R95). -/
theorem checkHeight_traverseLaw (auto : s.spout.manual = false) (p : s.spout.phase = .traverse)
    (c : s.spout.cond = some .inProgress) : TraverseLaw (checkHeight s).1 := by
  unfold checkHeight; dsimp only; split
  · next clear => exact ⟨fun _ _ => ⟨auto, (spoutClear_iff _).mp clear⟩, fun _ _ => ⟨p, c⟩⟩
  · exact beginRaise_traverseLaw auto (stopTraverse_still _)

theorem retakeLower_traverseLaw (still : Still s) (n : s.spout.phase ≠ .traverse) : TraverseLaw (retakeLower s).1 := by
  have c := lowerMove_eases s
  have same : TraverseLaw s := .of_still (fun p => absurd p n) fun _ => still
  unfold retakeLower; split
  · split
    · exact same
    · exact checkLower_traverseLaw (c.still still) (by rw [c.spout]; exact n)
  · exact same

/-! ### Recomputes, arrivals and restarts (R93 to R99) -/

/-- A travel in progress, or one that waits for clearance, is under AUTO (R70, R96, R101). -/
theorem PauseShape.auto (h : PauseShape s) (a : AuthorityAgrees s)
    (c : s.spout.cond = some .inProgress ∨ s.spout.cond = some .clearanceWait) : s.spout.manual = false :=
  a.auto (h.onWay (.inl (h.travels c)))

theorem recomputeTravel_traverseLaw (b : Bool) (a : AuthorityAgrees s) (h : PauseShape s) (l : TraverseLaw s) :
    TraverseLaw (recomputeTravel b s).1 := by
  have raise : s.spout.phase = .raise → s.spout.manual = false →
      TraverseLaw (if b then (s, false) else retakeRaise s).1 := fun p auto => by
    split
    · exact l
    · exact retakeRaise_traverseLaw auto (l.still (by rw [p]; nofun) auto) (by rw [p]; nofun)
  unfold recomputeTravel; split
  · next p c => exact raise p (h.auto a (.inl c))
  · next p c => exact raise p (h.auto a (.inr c))
  · next p c =>
    split
    · exact l
    · exact checkHeight_traverseLaw (h.auto a (.inl c)) p c
  · next p c =>
    exact retakeLower_traverseLaw (l.still (by rw [p]; nofun) (h.auto a (.inl c))) (by rw [p]; nofun)
  · exact (track_eases s).traverseLaw l

/-- A SPOUT arrival, whatever the position was before (R93, R95, R96). -/
theorem spoutArrived_traverseLaw (a : AuthorityAgrees s) (h : PauseShape s)
    (still : s.spout.manual = false → (s.spout.phase = .traverse → s.spout.cond ≠ some .inProgress) → Still s) :
    TraverseLaw (spoutArrived s).1 := by
  unfold spoutArrived; split
  · next p c =>
    have auto := h.auto a (.inl c)
    exact checkRaise_traverseLaw auto (still auto (by rw [p]; nofun)) (by rw [p]; nofun)
  · next p c =>
    have auto := h.auto a (.inr c)
    exact retakeRaise_traverseLaw auto (still auto (by rw [p]; nofun)) (by rw [p]; nofun)
  · next p c => exact checkHeight_traverseLaw (h.auto a (.inl c)) p c
  · next p c => exact checkLower_traverseLaw (still (h.auto a (.inl c)) (by rw [p]; nofun)) (by rw [p]; nofun)
  · next n _ => exact .of_still n fun auto => still auto n

theorem traverseArrived_traverseLaw (l : TraverseLaw s) : TraverseLaw (traverseArrived s).1 := by
  unfold traverseArrived; split
  · exact checkTraverse_traverseLaw l
  · exact l

theorem restartTravel_traverseLaw (seen : Bool) (auto : s.spout.manual = false) (still : Still s) :
    TraverseLaw (restartTravel seen s).1 := by
  have raises := beginRaise_traverseLaw auto still
  unfold restartTravel; dsimp only; split
  · exact raises
  · split
    · split
      · next clear => exact beginTraverse_traverseLaw auto clear
      · exact raises
    · exact beginLower_traverseLaw still
    · exact raises
    · exact raises

/-! ### What writes neither the axes nor the spout record -/

theorem Unmoved.eases (c : Unmoved s t) : Eases s t := .of_axes c.spout c.axes

theorem Scheduled.eases (f : Scheduled s t) : Eases s t := by obtain ⟨_, _, _, rfl⟩ := f; exact {}

theorem Ends.eases {o : OrderId} {x : Order} (d : Ends o x s t) : Eases s t := by obtain ⟨_, _, _, rfl⟩ := d; exact {}

theorem commitAmendments_eases (s : State) : Eases s (commitAmendments s) := by
  unfold commitAmendments; dsimp only; split
  · exact .trans {} (wake_scheduled _).eases
  · exact {}

theorem setRunLine_eases (s : State) : Eases s (setRunLine s) := (setRunLine_beside s).eases

theorem enterFeeding_eases (st : SchedState) (s : State) : Eases s (enterFeeding st s) :=
  (enterState_scheduled st s).eases.trans ((setRunLine_eases _).trans (track_eases _))

/-! ### The ends of a pour and pauses (R68, R76, R98) -/

/-- A pour's end stops the axes and ends its travel, and nothing after that begins one. -/
theorem Ends.traverseLaw {o : OrderId} {x : Order} (d : Ends o x (endTravel (stopAxes s)) t) :
    TraverseLaw (commitAmendments (clearPour t)) := by
  obtain ⟨gantry, reach⟩ := stopAxes_still s
  have ended : TraverseLaw (endTravel (stopAxes s)) := .of_still nofun fun _ => ⟨gantry, reach⟩
  have cleared : Eases t (clearPour t) := {}
  exact (d.eases.trans (cleared.trans (commitAmendments_eases _))).traverseLaw ended

theorem immediateEnd_traverseLaw (c : ImmediateCause) (k : After) (l : s.pourOrder = none → TraverseLaw s) :
    TraverseLaw (immediateEnd c k s) := by
  unfold immediateEnd; split
  · exact (afterImmediate_scheduled k _).eases.traverseLaw (recordImmediate_ends _ c _).traverseLaw
  · next p => exact l p

theorem haltWith_traverseLaw (c : ImmediateCause) (k : HaltCause) (l : TraverseLaw s) : TraverseLaw (haltWith c k s) := by
  unfold haltWith; split
  · exact immediateEnd_traverseLaw c _ fun _ => l
  · exact (raiseHalt_scheduled k s).eases.traverseLaw l

theorem goOn_eases (next : Option OrderId) (s : State) : Eases s (goOn s next).1 := by
  unfold goOn; split
  · exact (walkOn_scheduled s).eases
  · split
    · exact {}
    · exact (walkOn_scheduled s).eases

theorem finaliseStep_traverseLaw {o : OrderId} (c : EndCause) (p : s.pourOrder = some o) : TraverseLaw (finaliseStep c s).1 := by
  rw [finaliseStep_eq c p]
  exact (goOn_eases _ _).traverseLaw (finishOrder_ends o c _).traverseLaw

theorem abandonTravel_traverseLaw (still : Still s) : TraverseLaw (abandonTravel s) := by
  unfold abandonTravel; split
  · next p => exact .of_still (by rw [p]; nofun) fun _ => still
  all_goals exact .of_still nofun fun _ => ⟨still.gantry, still.reach⟩

/-- A pause stops the axes and abandons the travel, whatever it was (R68, R98). -/
theorem enterPaused_traverseLaw (ret : ReturnState) (s : State) : TraverseLaw (enterPaused ret s) := by
  have paused : Eases (setRunLine (abandonTravel (stopAxes (enterState .paused s)))) (enterPaused ret s) := {}
  exact ((setRunLine_eases _).trans paused).traverseLaw (abandonTravel_traverseLaw (stopAxes_still _))

/-! ### Activation and finalisation (R52 to R55) -/

theorem activateStep_traverseLaw (o : OrderId) (a : AuthorityAgrees s) (i : TravelIdle s) (l : TraverseLaw s) :
    TraverseLaw (activateStep o s).1 := by
  cases e : (s.order o).hold with
  | none => simpa only [activateStep, e] using (walkOn_scheduled s).eases.traverseLaw l
  | some k =>
    have begun : Eases s (pourBegun o k s) := .trans {} (enterState_scheduled _ _).eases
    have spotted : (writeSpot k (s.order o).spot (pourBegun o k s)).axes = (pourBegun o k s).axes := by
      unfold writeSpot; split <;> rfl
    have agrees : AuthorityAgrees (writeSpot k (s.order o).spot (pourBegun o k s)) :=
      ((enterState_kept _ _).trans (writeSpot_kept k (s.order o).spot _)).authority (by exact a)
    rw [activateStep_eq e]
    split
    · exact immediateEnd_traverseLaw _ _ fun _ => begun.traverseLaw l
    · split
      · next empty =>
        have auto := agrees.auto ((ReasonSet.isEmpty_iff _).mp empty)
        have was : s.spout.manual = false := by
          rw [← auto, (writeSpot_kept k (s.order o).spot _).manual, begun.spout]
        obtain ⟨gantry, reach⟩ := begun.still (l.still (fun _ => i.going) was)
        exact beginRaise_traverseLaw auto ⟨by rw [spotted]; exact gantry, by rw [spotted]; exact reach⟩
      · exact enterPaused_traverseLaw ..

/-- An activation with all that the continue rule hands on within the event. -/
theorem runActivation_traverseLaw (n : Nat) (o : OrderId) (a : AuthorityAgrees s) (i : TravelIdle s) (l : TraverseLaw s) :
    TraverseLaw (runActivation n o s) := by
  induction n generalizing o s with
  | zero => exact (walkOn_scheduled s).eases.traverseLaw l
  | succ n ih =>
    have law := activateStep_traverseLaw o a i l
    have agrees := (activateStep_kept o s).authority a
    unfold runActivation
    split
    · next t e => rw [e] at law; exact law
    · next t e =>
      rw [e] at law agrees
      split
      · have kept := (finaliseStep_kept .complete t).authority agrees
        cases p : t.pourOrder with
        | none => simpa only [finaliseStep, p] using law
        | some _ =>
          have finalised := finaliseStep_traverseLaw .complete p
          have idle := (finaliseStep_idle .complete p).1
          split
          · next u m f => rw [f] at kept idle finalised; exact ih m kept idle finalised
          · next u f => rw [f] at finalised; exact finalised
      · exact (enterFeeding_eases ..).traverseLaw law

theorem activate_traverseLaw (o : OrderId) (a : AuthorityAgrees s) (i : TravelIdle s) (l : TraverseLaw s) :
    TraverseLaw (activate o s) := runActivation_traverseLaw 65 o a i l

theorem finalise_traverseLaw (c : EndCause) (a : AuthorityAgrees s) (l : TraverseLaw s) : TraverseLaw (finalise c s) := by
  have agrees := (finaliseStep_kept c s).authority a
  unfold finalise
  cases p : s.pourOrder with
  | none => simpa only [finaliseStep, p] using l
  | some _ =>
    have finalised := finaliseStep_traverseLaw c p
    have idle := (finaliseStep_idle c p).1
    split
    · next t n e => rw [e] at agrees finalised idle; exact activate_traverseLaw n agrees idle finalised
    · next t e => rw [e] at finalised; exact finalised

theorem finalisationTest_traverseLaw (a : AuthorityAgrees s) (l : TraverseLaw s) : TraverseLaw (finalisationTest s) := by
  unfold finalisationTest; split
  · exact finalise_traverseLaw _ a l
  · exact l

/-- A pour that feeds, and finalises at once where nothing is left to drain. -/
theorem feedsAndTests_traverseLaw (st : SchedState) (a : AuthorityAgrees s) (l : TraverseLaw s) :
    TraverseLaw (finalisationTest (enterFeeding st s)) :=
  finalisationTest_traverseLaw ((enterFeeding_kept st s).authority a) ((enterFeeding_eases st s).traverseLaw l)

theorem travelComplete_traverseLaw (a : AuthorityAgrees s) (l : TraverseLaw s) : TraverseLaw (travelComplete s) := by
  unfold travelComplete
  split
  · exact l
  · split
    · exact finalise_traverseLaw _ a l
    · split
      · exact (enterFeeding_eases ..).traverseLaw l
      · exact feedsAndTests_traverseLaw _ a l

theorem settle_traverseLaw {r : State × Bool} (c : Answers s r) (a : AuthorityAgrees s) (l : TraverseLaw r.1) :
    TraverseLaw (settle r) := by
  unfold settle; split
  · exact travelComplete_traverseLaw (c.chain.kept.authority a) l
  · exact l

theorem orderlyEnd_traverseLaw (c : EndCause) (a : AuthorityAgrees s) (l : TraverseLaw s) : TraverseLaw (orderlyEnd c s) := by
  unfold orderlyEnd; dsimp only
  split
  · have drains := enterState_scheduled .draining { s with pour.endCause := some (combineCause s.pour.endCause c) }
    exact finalisationTest_traverseLaw (((enterState_kept ..).trans (setRunLine_kept _)).authority (by exact a))
      ((drains.eases.trans (setRunLine_eases _)).traverseLaw l)
  · split
    · exact finalise_traverseLaw _ a l
    · exact l
  · split
    · exact finalise_traverseLaw _ a l
    · exact l
  · split
    · exact finalise_traverseLaw _ a l
    · exact l
  all_goals exact l

/-! ### Pause reasons (R65 to R70, R99, R102) -/

/-- A reason added asks for the law before it only where it does not pause a TRAVELLING pour. -/
theorem addReason_traverseLaw (c : PauseReason)
    (l : (s.sched.state = .travelling → s.pour.reasons.isEmpty = false) → TraverseLaw s) : TraverseLaw (addReason c s) := by
  have elsewhere : s.sched.state ≠ .travelling → TraverseLaw s := fun n => l fun e => absurd e n
  unfold addReason; dsimp only
  split
  · split
    · exact enterPaused_traverseLaw ..
    · next stands => exact l fun _ => by simpa using stands
  · next e =>
    split
    · exact enterPaused_traverseLaw ..
    · exact elsewhere (by rw [e]; nofun)
  · next e => split <;> exact elsewhere (by rw [e]; nofun)
  all_goals
    next e =>
    exact elsewhere (by rw [e]; nofun)

theorem leavePause_traverseLaw (a : AuthorityAgrees s) (auto : s.spout.manual = false) (still : Still s) (l : TraverseLaw s) :
    TraverseLaw (leavePause s) := by
  let t : State := { s with pour.returnState := none, pour.manualSeen := false }
  have goes : Eases t (enterState .travelling t) := (enterState_scheduled .travelling t).eases
  have travels : ∀ seen, TraverseLaw (settle (restartTravel seen (enterState .travelling t))) := fun seen =>
    settle_traverseLaw (restartTravel_answers seen _) ((enterState_kept .travelling t).authority a)
      (restartTravel_traverseLaw seen (by rw [goes.spout]; exact auto) (goes.still ⟨still.gantry, still.reach⟩))
  unfold leavePause; dsimp only
  split
  · exact (enterFeeding_eases .pouring t).traverseLaw l
  · exact feedsAndTests_traverseLaw (s := t) .draining a l
  · exact travels _
  · exact travels _
  · exact travels _
  · exact l

theorem removeReason_traverseLaw (c : PauseReason) (a : AuthorityAgrees { s with pour.reasons := s.pour.reasons.put c false })
    (h : PauseShape s) (l : TraverseLaw s) : TraverseLaw (removeReason c s) := by
  unfold removeReason; dsimp only; split
  · next e =>
    obtain ⟨state, -, empty⟩ := e
    have auto : s.spout.manual = false := a.auto ((ReasonSet.isEmpty_iff _).mp empty)
    have still := l.still (fun _ => (h.travelIdle (by rw [state]; nofun)).going) auto
    exact leavePause_traverseLaw a auto ⟨still.gantry, still.reach⟩ l
  · exact l

/-! ### The exclusion set and the dust monitor (R20, R21, R153 to R157) -/

theorem exclusionFormed_traverseLaw (before : HoldSet) (l : TraverseLaw s) : TraverseLaw (exclusionFormed before s) := by
  have woken : TraverseLaw (wake (raise .maskChanged s)) := (wake_scheduled _).eases.traverseLaw l
  unfold exclusionFormed; dsimp only
  split
  · exact l
  · split
    · split
      · exact immediateEnd_traverseLaw _ _ fun _ => woken
      · exact woken
    · exact woken

theorem headStops_traverseLaw (l : TraverseLaw s) : TraverseLaw (headStops s) := by
  unfold headStops; split
  · exact exclusionFormed_traverseLaw _ l
  · exact l

theorem formDustPlant_traverseLaw (a : AuthorityAgrees s) (h : PauseShape s) (l : TraverseLaw s) : TraverseLaw (formDustPlant s) := by
  unfold formDustPlant; split
  · exact addReason_traverseLaw _ fun _ => l
  · exact removeReason_traverseLaw _ a h l
  all_goals exact l

end Sys2Proof.Machine
end

section
/-! What keeps the law of the pauses and with it the law of the traverse (`Steers`): the operations that blocks share, the emergency stop,
the authority, and what is written to an axis. An `Effect` leaves the record that is written to an axis open but for the law of that
axis, and the law of the traverse needs its state and its position; that the pauses' law is kept is taken from the effects. -/

set_option Elab.async false

namespace Sys2Proof.Machine

variable {s t u : State}

/-! ### The operations that blocks share -/

/-- The two laws together: what a travel goes on by, and what it keeps. -/
structure Steady (s : State) : Prop where
  pauses : PauseLaw s
  traverse : TraverseLaw s

theorem Steady.authority (h : Steady s) : AuthorityAgrees s := ((pauseLaw_iff s).mp h.pauses).1

theorem Steady.shape (h : Steady s) : PauseShape s := ((pauseLaw_iff s).mp h.pauses).2.2

/-- What becomes of a state keeps the two laws. -/
structure Steers (s t : State) : Prop where
  keeps : Steady s → Steady t

theorem Steers.refl (s : State) : Steers s s := ⟨id⟩

theorem Steers.trans (a : Steers s t) (b : Steers t u) : Steers s u := ⟨b.keeps ∘ a.keeps⟩

theorem Effects.steers (c : Effects True s t) (l : Steady s → TraverseLaw t) : Steers s t :=
  ⟨fun h => ⟨c.keep (Effect.pauseLaw trivial) h.pauses, l h⟩⟩

theorem Effects.steers_of_eases (c : Effects True s t) (e : Eases s t) : Steers s t := c.steers fun h => e.traverseLaw h.traverse

theorem Beside.steers (c : Beside s t) : Steers s t := c.effects.steers_of_eases c.eases

theorem raise_steers (f : EventFlag) (s : State) : Steers s (raise f s) := Beside.steers {}

theorem Scheduled.steers (f : Scheduled s t) (before : s.sched.state.isPour = false) (after : t.sched.state.isPour = false) :
    Steers s t := (Effect.schedules f (fun _ => before) after).chain.steers_of_eases f.eases

theorem wake_steers (s : State) : Steers s (wake s) := (wake_effects s).steers_of_eases (wake_scheduled s).eases

theorem boundaryTest_steers (s : State) : Steers s (boundaryTest s) := (boundaryTest_effects s).steers_of_eases <| by
  unfold boundaryTest; split
  · exact .refl s
  · exact commitAmendments_eases s

theorem exclusionFormed_steers (before : HoldSet) (s : State) : Steers s (exclusionFormed before s) :=
  (exclusionFormed_effects before s).steers fun h => exclusionFormed_traverseLaw before h.traverse

theorem stopAxes_steers (s : State) : Steers s (stopAxes s) := (Effect.stopsAxes s).chain.steers_of_eases (stopAxes_eases s)

theorem immediateEnd_steers (c : ImmediateCause) (k : After) (s : State) : Steers s (immediateEnd c k s) :=
  (Effect.endsAtOnce c k s).chain.steers fun h => immediateEnd_traverseLaw c k fun _ => h.traverse

theorem orderlyEnd_steers (c : EndCause) (s : State) : Steers s (orderlyEnd c s) :=
  (Effect.endsOrderly c s).chain.steers fun h => orderlyEnd_traverseLaw c h.authority h.traverse

theorem finalisationTest_steers (s : State) : Steers s (finalisationTest s) :=
  (Effect.testsFinalisation s).chain.steers fun h => finalisationTest_traverseLaw h.authority h.traverse

theorem recompute_steers (s : State) : Steers s (recompute s) := (Effect.recomputes s).chain.steers fun h =>
  settle_traverseLaw (recomputeTravel_answers false s) h.authority (recomputeTravel_traverseLaw false h.authority h.shape h.traverse)

theorem activate_steers (o : OrderId) (e : s.sched.state = .seeking) : Steers s (activate o s) :=
  (Effect.activates o e).chain.steers fun h =>
    activate_traverseLaw o h.authority (h.shape.travelIdle (by rw [e]; nofun)) h.traverse

theorem haltWith_steers (c : ImmediateCause) (k : HaltCause) (a : ActiveLaw s) : Steers s (haltWith c k s) :=
  (haltWith_effects c k fun _ => a).steers fun h => haltWith_traverseLaw c k h.traverse

/-- A channel's event from a state that differs in what concerns neither the axes nor the pauses (R153). -/
theorem handOn_steers (c : Channel) (before : ChannelState) (level : Level) (m : Unmoved s t) : Steers s (handOn c before level t) :=
  (Effect.handsOn c before level m).chain.steers fun h => by
    have agrees : AuthorityAgrees t := by rw [AuthorityAgrees, m.reasons, m.spout]; exact h.authority
    have shape : PauseShape t := h.shape.congr m.state m.reasons m.returnState m.spout
    have law := m.eases.traverseLaw h.traverse
    have lockout : AuthorityAgrees (if c = .head ∧ entersStop level (t.level c) then headStops t else t) ∧
        PauseShape (if c = .head ∧ entersStop level (t.level c) then headStops t else t) ∧
        TraverseLaw (if c = .head ∧ entersStop level (t.level c) then headStops t else t) := by
      split
      · obtain ⟨_, k⟩ := headStops_kept t
        exact ⟨k.authority agrees, headStops_shape shape, headStops_traverseLaw law⟩
      · exact ⟨agrees, shape, law⟩
    unfold handOn; dsimp only
    generalize (if c = .head ∧ entersStop level (t.level c) then headStops t else t) = w at lockout ⊢
    obtain ⟨agrees, shape, law⟩ := lockout
    have choked : AuthorityAgrees (if c = .head ∧ crossesWarn level (t.level c) then settle (recomputeTravel true w) else w) ∧
        PauseShape (if c = .head ∧ crossesWarn level (t.level c) then settle (recomputeTravel true w) else w) ∧
        TraverseLaw (if c = .head ∧ crossesWarn level (t.level c) then settle (recomputeTravel true w) else w) := by
      split
      · exact ⟨(settle_kept _ (recomputeTravel_kept true w)).authority agrees, recomputeTravel_shape true agrees shape,
          settle_traverseLaw (recomputeTravel_answers true w) agrees (recomputeTravel_traverseLaw true agrees shape law)⟩
      · exact ⟨agrees, shape, law⟩
    generalize (if c = .head ∧ crossesWarn level (t.level c) then settle (recomputeTravel true w) else w) = v at choked ⊢
    obtain ⟨agrees, shape, law⟩ := choked
    have formed := formDustPlant_traverseLaw agrees shape law
    split <;> split <;> exact formed

/-! ### The emergency stop, the authority and the pause reasons (R65 to R69, R79, R101, R102) -/

theorem emergencyStop_steers (a : ActiveLaw s) : Steers s (emergencyStop { s with inputs.eStop := true }) :=
  (Effect.stopsAll fun _ => a).chain.steers fun h => by
    have halted : TraverseLaw (haltWith .yield .estop { s with inputs.eStop := true }) := haltWith_traverseLaw _ _ h.traverse
    have sounds : Eases (stopAxes (haltWith .yield .estop { s with inputs.eStop := true }))
      (emergencyStop { s with inputs.eStop := true }) := {}
    exact ((stopAxes_eases _).trans sounds).traverseLaw halted

theorem addReason_steers {c : PauseReason} (s : State) (h : c = .cab ∨ c = .ship) : Steers s (addReason c s) :=
  (Effect.addsReason s h).chain.steers fun h => addReason_traverseLaw c fun _ => h.traverse

theorem removeReason_steers {c : PauseReason} (s : State) (q : c = .cab ∨ c = .ship) : Steers s (removeReason c s) :=
  (Effect.removesReason s q).chain.steers fun h =>
    removeReason_traverseLaw c ((ReasonSet.put_requested q s.pour.reasons false).1.trans h.authority) h.shape h.traverse

/-- MANUAL is taken where no travel is in progress, or with a pause that abandons it. -/
theorem takesManual_steers (n : s.sched.state ≠ .draining) : Steers s (addReason .manual { s with spout.manual := true }) :=
  (Effect.takesManual n).chain.steers fun h => addReason_traverseLaw .manual fun stands =>
    have idle : s.sched.state ≠ .travelling := fun e => by
      have stands : s.pour.reasons.isEmpty = false := stands e
      rw [h.shape.onWay (.inl e)] at stands; cases stands
    .of_still (fun _ => (h.shape.travelIdle idle).going) nofun

/-- A release stops the axes before the authority is AUTO again. -/
theorem releasesManual_steers (s : State) : Steers s (removeReason .manual { stopAxes s with spout.manual := false }) :=
  (Effect.releasesManual s).chain.steers fun h => by
    obtain ⟨onWay, paused, -, phase, travels⟩ := h.shape
    obtain ⟨high, -⟩ := (stopAxes_eases s).traverseLaw h.traverse
    obtain ⟨gantry, reach⟩ := stopAxes_still s
    have law : TraverseLaw { stopAxes s with spout.manual := false } :=
      ⟨fun p c => ⟨rfl, (high p c).2⟩, fun _ m => (m.elim gantry reach).elim⟩
    exact removeReason_traverseLaw .manual rfl ⟨onWay, paused, fun _ => rfl, phase, travels⟩ law

/-! ### What is written to an axis (R83 to R88, R103) -/

theorem setAxis_still {a : Axis} {r : AxisRec} (moves : r.state = .moving → (s.axis a).state = .moving) (h : Still s) :
    Still (s.setAxis a r) := by
  obtain ⟨gantry, reach⟩ := h
  cases a with
  | gantry => exact ⟨mt moves gantry, reach⟩
  | reach => exact ⟨gantry, mt moves reach⟩
  | spout => exact ⟨gantry, reach⟩

theorem setAxis_eases {a : Axis} {r : AxisRec} (position : r.position = (s.axis a).position)
    (moves : r.state = .moving → (s.axis a).state = .moving) : Eases s (s.setAxis a r) := by
  cases a with
  | gantry => exact { gantry := moves }
  | reach => exact { reach := moves }
  | spout => exact { position }

theorem failAxis_steers (a : Axis) (why : AxisReason) (s : State) : Steers s (failAxis a why s) :=
  (failAxis_effects a why s).steers fun h => by
    have failed : Eases s (s.setAxis a ((s.axis a).fail why)) := setAxis_eases rfl nofun
    unfold failAxis; split
    · exact h.traverse
    · exact immediateEnd_traverseLaw _ _ fun _ => (failed.trans (raise_scheduled ..).eases).traverseLaw h.traverse

theorem freeAxis_eases (a : Axis) (s : State) : Eases s (freeAxis a s) := by
  have free : ((s.axis a).freed s.now (s.inputs.driveFault.get a)).position = (s.axis a).position ∧
      (((s.axis a).freed s.now (s.inputs.driveFault.get a)).state = .moving → (s.axis a).state = .moving) := by
    unfold AxisRec.freed
    split
    · exact ⟨rfl, nofun⟩
    · exact ⟨rfl, id⟩
  exact setAxis_eases free.1 free.2

theorem clearHalts_steers (s : State) : Steers s (clearHalts s) := (clearHalts_effects s).steers_of_eases <| by
  have removed : Eases s { s with sched.halts := ⟨false, false, false, false⟩ } := {}
  rw [clearHalts, clearAxisFaults_eq]
  exact removed.trans ((freeAxis_eases ..).trans ((freeAxis_eases ..).trans (freeAxis_eases ..)))

theorem classArrived_steers (a : Axis) (c : SpeedClass) (s : State) : Steers s (s.setAxis a ((s.axis a).confirm s.now c)) :=
  (classArrived_effects a c s).steers_of_eases <| by
    rw [AxisRec.confirm_eq]
    exact setAxis_eases rfl id

/-- A jog is given under MANUAL, where no traverse is in progress (R103). -/
theorem moveAxis_traverseLaw (a : Axis) (k : MoveKind) (x : Int) (manual : s.spout.manual = true) (l : TraverseLaw s) :
    TraverseLaw (moveAxis a k x s) := by
  refine .of_still ?_ ?_ <;> rw [moveAxis_spout]
  · exact fun p c => absurd (l.1 p c).1 (by rw [manual]; nofun)
  · rw [manual]; nofun

theorem takeJog_steers (b : Byte) (d : BitVec 32) (s : State) : Steers s (takeJog b d s).state :=
  (takeJog_effects b d s).steers fun h => by
    unfold takeJog
    split
    · exact h.traverse
    · split
      · exact h.traverse
      · next free =>
        have manual : s.spout.manual = true := by
          simp only [Bool.or_eq_true, not_or, Bool.not_eq_true, Bool.not_eq_false'] at free
          exact free.1.1
        split
        · exact h.traverse
        · dsimp only
          split
          · exact h.traverse
          · exact moveAxis_traverseLaw _ _ _ manual h.traverse

theorem AxisRec.moving_of_advance {now : Time} {tol fine : Nat} {r : AxisRec} (m : (r.advance now tol fine).state = .moving) :
    r.state = .moving := by
  unfold AxisRec.advance at m
  split at m
  · next e _ _ => exact e
  · exact m

/-- A position out of range ends the pour whose traverse it would upset (R83, R87). -/
theorem outOfRange_traverseLaw {a : Axis} {x : Int} (active : ActiveLaw s) (f : (s.axis a).state ≠ .fault) (h : Steady s) :
    TraverseLaw (failAxis a .range (s.setAxis a { s.axis a with position := some x })) := by
  unfold failAxis
  rw [State.axis_setAxis, if_pos rfl, if_neg f]
  refine immediateEnd_traverseLaw _ _ fun none_ => ?_
  have rest : s.sched.state.isPour = false := not_pour_of_no_order active (by
    change s.pourOrder = none at none_
    rw [none_]; nofun)
  have idle := (h.shape.travelIdle (not_travelling_of_not_pour rest)).going
  refine .of_still (fun _ => idle) fun auto => ?_
  have still := setAxis_still (r := { s.axis a with position := some x }) id (h.traverse.still (fun _ => idle) auto)
  exact (raise_scheduled ..).eases.still (setAxis_still nofun still)

theorem positionArrived_steers (a : Axis) (x : Int) (active : ActiveLaw s) : Steers s (positionArrived a x s) :=
  (positionArrived_effects a x s).steers fun h => by
    unfold positionArrived; dsimp only
    split
    · next out => exact outOfRange_traverseLaw active out.1 h
    · rw [State.setAxis_setAxis, State.axis_setAxis, if_pos rfl]
      have moves := AxisRec.moving_of_advance (now := s.now) (tol := s.settings.tolerance) (fine := s.settings.fineZone)
        (r := { s.axis a with position := some x })
      generalize AxisRec.advance s.now s.settings.tolerance s.settings.fineZone { s.axis a with position := some x } = r at moves
      have across : ∀ w, Eases s w → AuthorityAgrees w → TraverseLaw (settle (traverseArrived (setRunLine w))) := fun w e agrees =>
        settle_traverseLaw (traverseArrived_answers _) ((setRunLine_kept w).authority agrees)
          (traverseArrived_traverseLaw ((e.trans (setRunLine_eases w)).traverseLaw h.traverse))
      cases a with
      | gantry => exact across _ { gantry := moves } h.authority
      | reach => exact across _ { reach := moves } h.authority
      | spout =>
        refine settle_traverseLaw (spoutArrived_answers _) h.authority (spoutArrived_traverseLaw h.authority h.shape.congr ?_)
        exact fun auto n => setAxis_still (a := .spout) moves (h.traverse.still n auto)

end Sys2Proof.Machine
end

section
/-! The law of the traverse through the requests and the events, command by command as in the chains of effects, and so through every
step. -/

set_option Elab.async false

namespace Sys2Proof.Machine

variable {s t : State}

/-! ### The checks of a request -/

theorem whileOpen_steers {α : Type} {field : Option α} {act : α → Taken} (h : ∀ x, Steers s (act x).state) :
    Steers s (whileOpen field s act).state := by
  unfold whileOpen
  split
  · exact .refl s
  · split
    · exact h _
    · exact .refl s

theorem onDeclared_steers {b : Byte} {act : HoldId → Taken} (h : ∀ x, Steers s (act x).state) :
    Steers s (onDeclared b s act).state :=
  whileOpen_steers fun x => by
    split
    · exact h x
    · exact .refl s

theorem onOrder_steers {b : Byte} {act : OrderId → Taken} (h : ∀ x, Steers s (act x).state) :
    Steers s (onOrder b s act).state :=
  whileOpen_steers fun x => by
    split
    · exact .refl s
    · exact h x

/-! ### The hold table (chapter 1) -/

theorem takeDeclareHold_steers (b : Byte) (g : HoldGeom) (s : State) : Steers s (takeDeclareHold b g s).state := by
  refine whileOpen_steers fun h => ?_
  split
  · exact .refl s
  · split
    · exact (setHold_beside h _ s).steers.trans (boundaryTest_steers _)
    · exact (setHold_beside h _ s).steers.trans (recompute_steers _)

theorem takeSetShipOffset_steers (x : BitVec 16) (b : Byte) (s : State) : Steers s (takeSetShipOffset x b s).state :=
  whileOpen_steers fun hd => (Beside.steers (t := { s with
    ship.staged := some (clampInt (-20000) 20000 x.toInt, hd) }) {}).trans (boundaryTest_steers _)

theorem heightsChanged_steers (s : State) : Steers s (heightsChanged s) := by
  unfold heightsChanged
  split
  · exact (wake_steers s).trans (recompute_steers _)
  · exact recompute_steers s

theorem levelArrived_steers (v : BitVec 32) (s : State) : Steers s (levelArrived v s) := by
  unfold levelArrived
  split
  · exact (Beside.steers (t := { s with river := ⟨v.toInt.toNat, s.now, false⟩ }) {}).trans (heightsChanged_steers _)
  · exact raise_steers _ s

theorem levelGoesStale_steers (s : State) : Steers s (levelGoesStale s) := by
  unfold levelGoesStale
  split
  · exact .refl s
  · exact Beside.steers {}

theorem takeSetHoldLimit_steers (b : Byte) (x : BitVec 32) (s : State) : Steers s (takeSetHoldLimit b x s).state := by
  refine onDeclared_steers fun h => ?_
  have limited := (setHold_beside h { s.hold h with limit := clampNat 0 500000000 x.toNat } s).steers.trans (wake_steers _)
  dsimp only
  split
  · exact limited.trans (orderlyEnd_steers ..)
  · exact limited

theorem takeCloseHatch_steers (b : Byte) (s : State) : Steers s (takeCloseHatch b s).state :=
  onDeclared_steers fun h => (setHold_beside h _ s).steers.trans (exclusionFormed_steers ..)

theorem takeOpenHatch_steers (b : Byte) (s : State) : Steers s (takeOpenHatch b s).state := by
  refine onDeclared_steers fun h => ?_
  have opened := (setHold_beside h { s.hold h with hatchOpen := true } s).steers
  dsimp only
  split
  · exact .refl s
  · split
    · exact opened.trans (wake_steers _)
    · exact opened.trans (exclusionFormed_steers ..)

theorem takeReportDraft_steers (es : List (Byte × BitVec 16)) (s : State) : Steers s (takeReportDraft es s).state := by
  refine whileOpen_steers fun draft => ?_
  split
  · have reported : Beside (writeFreeboards draft s) { writeFreeboards draft s with ship.loadedAtReport := s.totalLoaded } := {}
    exact ((writeFreeboards_beside draft s).trans reported).steers.trans (heightsChanged_steers _)
  · exact .refl s

theorem takeSetTpc_steers (x : BitVec 32) (s : State) : Steers s (takeSetTpc x s).state :=
  whileOpen_steers fun n => (Beside.steers (t := { s with
    ship.tpc := if n = 0 then none else some (clampNat 1000 200000 n) }) {}).trans (heightsChanged_steers _)

theorem takeSuspend_steers (bs : List Byte) (s : State) : Steers s (takeSuspend bs s).state := by
  refine whileOpen_steers fun hs => ?_
  split
  · exact .refl s
  · exact (setSuspension_beside _ s).steers.trans (exclusionFormed_steers ..)

theorem takeResume_steers (s : State) : Steers s (takeResume s).state := by
  refine whileOpen_steers fun _ => ?_
  split
  · exact .refl s
  · exact (setSuspension_beside _ s).steers.trans (exclusionFormed_steers ..)

/-! ### Orders and passes (chapter 2) -/

theorem takeAddOrder_steers (f : Option OrderFields) (s : State) : Steers s (takeAddOrder f s).state := by
  refine whileOpen_steers fun x => ?_
  split
  · exact .refl s
  · split
    · exact .refl s
    · split
      · exact .refl s
      · split
        · exact .refl s
        · next o _ =>
          have queued : Beside s ((s.setOrder o x.order).setQueue x.hold (s.queue x.hold ++ [o])) := {}
          exact queued.steers.trans (wake_steers _)

theorem takeWithdrawOrder_steers (b : Byte) (s : State) : Steers s (takeWithdrawOrder b s).state := by
  refine onOrder_steers fun o => ?_
  have withdrawn := (finishOrder_ends o .withdrawn s).beside.steers.trans (wake_steers _)
  split
  · exact withdrawn
  · exact withdrawn
  · exact orderlyEnd_steers ..
  all_goals exact .refl s

theorem takeRearmOrder_steers (b : Byte) (s : State) : Steers s (takeRearmOrder b s).state := by
  refine onOrder_steers fun o => ?_
  split
  · exact (setOrder_beside o _ s).steers.trans (wake_steers _)
  · exact .refl s

theorem takeReleaseOrder_steers (b : Byte) (s : State) : Steers s (takeReleaseOrder b s).state := by
  refine onOrder_steers fun o => ?_
  split
  · exact .refl s
  · split
    · exact .refl s
    · exact (setOrder_beside o _ s).steers

theorem editPasses_steers (v : Vector (List HoldId) 12) (s : State) : Steers s (editPasses v s) :=
  (editPasses_effects v s).steers_of_eases <| by
    by_cases e : s.sched.state = .stopped ∨ s.sched.state = .held ∨ s.sched.state = .complete
    · have commits : Eases s { s with passes := ⟨v, v, false⟩ } := {}
      rw [editPasses_commits e]
      split
      · exact commits
      · rw [← wake_eq]; exact commits.trans (wake_scheduled _).eases
    · rw [editPasses_waits (by cases k : s.sched.state <;> simp_all [SchedState.isPour])]
      exact {}

/-! ### The schedule (chapter 3) -/

theorem resumeWalk_steers (e : s.sched.state.isPour = false) : Steers s (resumeWalk s) :=
  (resumeWalk_scheduled s).steers e (by rw [resumeWalk_state]; rfl)

theorem newRound_steers (e : s.sched.state.isPour = false) : Steers s (startRound (enterState .seeking s)) :=
  ((enterState_scheduled .seeking s).trans (startRound_scheduled _)).steers e (by simp [SchedState.isPour])

theorem takeStart_steers (s : State) : Steers s (takeStart s).state := by
  have unstepped : Steers s { s with sched.stepFlag := false } := (setStep_beside false s).steers
  unfold takeStart
  split
  · exact .refl s
  · split
    · next e => exact unstepped.trans (resumeWalk_steers (by exact congrArg SchedState.isPour e))
    · next e => exact unstepped.trans (newRound_steers (by exact congrArg SchedState.isPour e))
    · next e => exact unstepped.trans (newRound_steers (by exact congrArg SchedState.isPour e))
    · next e =>
      split
      · exact .refl s
      · exact unstepped.trans ((clearHalts_steers _).trans (resumeWalk_steers (by exact congrArg SchedState.isPour e)))
    all_goals exact .refl s

theorem takeStep_steers (s : State) : Steers s (takeStep s).state := by
  unfold takeStep
  split
  · next c =>
    simp only [Bool.and_eq_true, beq_iff_eq] at c
    exact (setStep_beside true s).steers.trans (resumeWalk_steers (by exact congrArg SchedState.isPour c.2))
  · exact .refl s

theorem takeHaltSchedule_steers (a : ActiveLaw s) : Steers s (takeHaltSchedule s).state := by
  have halts : Steers s (if s.pourOrder.isSome then Taken.done (stopAxes (immediateEnd .yield .haltSchedule s))
      else Taken.done (stopSchedule (stopAxes s))).state := by
    split
    · exact (immediateEnd_steers ..).trans (stopAxes_steers _)
    · next e =>
      exact (stopAxes_steers s).trans ((stopSchedule_scheduled _).steers (by exact not_pour_of_no_order a e)
        (by simp [stopSchedule, SchedState.isPour]))
  unfold takeHaltSchedule
  split
  · exact .refl s
  · exact .refl s
  all_goals exact halts

theorem moveOn_steers (e : s.sched.state = .seeking) : Steers s (moveOn s) := by
  have n : s.sched.state.isPour = false := by rw [e]; rfl
  exact (moveOn_scheduled s).steers n (moveOn_not_pour n)

theorem passOver_steers (h : HoldId) (c : HeldCause) (e : s.sched.state = .seeking) : Steers s (passOver h c s) :=
  (Beside.steers (t := { s with sched.held := s.sched.held.set h (some c) }) {}).trans (moveOn_steers (by exact e))

theorem examine_steers (s : State) : Steers s (examine s) := by
  unfold examine
  split
  · exact .refl s
  · next e =>
    have seeking : s.sched.state = .seeking := not_not.mp e
    split
    · exact moveOn_steers seeking
    · split
      · exact moveOn_steers seeking
      · split
        · split
          · exact activate_steers _ seeking
          · exact passOver_steers _ _ seeking
        · exact passOver_steers _ _ seeking

/-! ### Pours and the spout (chapters 4 and 5) -/

theorem takeReason_steers {c : PauseReason} (b : Bool) (s : State) (h : c = .cab ∨ c = .ship) :
    Steers s (takeReason c b s).state := by
  refine whileOpen_steers fun _ => ?_
  cases b
  · exact removeReason_steers s h
  · exact addReason_steers s h

theorem takeTopOff_steers (s : State) : Steers s (takeTopOff s).state := by
  unfold takeTopOff
  split
  · exact orderlyEnd_steers ..
  · exact .refl s

theorem confirmChanged_steers (b : Bool) (s : State) : Steers s (confirmChanged b s) := by
  have noted : Steers s { s with inputs.beltConfirm := b } := Beside.steers {}
  unfold confirmChanged; dsimp only
  split
  · exact noted
  · split
    · exact Beside.steers {}
    · exact noted.trans (immediateEnd_steers ..)
    all_goals exact noted

theorem confirmExpired_steers (s : State) : Steers s (confirmExpired s) := by
  unfold confirmExpired
  split
  · exact (reachTime_beside _ s).steers.trans (immediateEnd_steers ..)
  · exact .refl s

theorem takeTakeManual_steers (s : State) : Steers s (takeTakeManual s).state := by
  unfold takeTakeManual
  split
  · exact .refl s
  · next n =>
    split
    · exact .refl s
    · exact takesManual_steers fun e => n (.inr e)

theorem takeReleaseManual_steers (s : State) : Steers s (takeReleaseManual s).state := by
  unfold takeReleaseManual
  split
  · exact releasesManual_steers s
  · exact .refl s

theorem classExpired_steers (a : Axis) (s : State) : Steers s (classExpired a s) := by
  unfold classExpired
  split
  · exact (reachTime_beside _ s).steers.trans (failAxis_steers ..)
  · exact .refl s

theorem moveExpired_steers (a : Axis) (s : State) : Steers s (moveExpired a s) := by
  unfold moveExpired
  split
  · exact (reachTime_beside _ s).steers.trans (failAxis_steers ..)
  · exact .refl s

/-! ### Weighing, the belt and the dust monitor (chapters 7 to 9) -/

theorem takeScaleStatus_steers (b : Byte) (s : State) : Steers s (takeScaleStatus b s).state := by
  unfold takeScaleStatus
  split
  · exact .refl s
  · exact Beside.steers {}

theorem takeNextBatch_steers (s : State) : Steers s (takeNextBatch s).state := by
  unfold takeNextBatch
  split
  · exact .refl s
  · unfold permittedPoll
    split
    · exact Beside.steers {}
    · exact orderlyEnd_steers ..
  · exact .refl s

theorem faultReport_steers (g : Grant) (gross tare : Nat) (s : State) : Steers s (faultReport g gross tare s) := by
  have accepted : Steers s (acceptReport g gross tare g.size .faulted { s with weigh.ready := false }) :=
    (Beside.trans (t := { s with weigh.ready := false }) {} (acceptReport_beside ..)).steers
  unfold faultReport; dsimp only
  split
  · exact accepted.trans (immediateEnd_steers ..)
  · exact accepted

theorem refuseReport_steers (batch gross tare : Nat) (o : ReportOutcome) (r : Result) (a : ActiveLaw s) :
    Steers s (refuseReport batch gross tare o r s).state :=
  (Beside.steers (t := raise .scaleAlert { s with weigh.last := some ⟨batch, gross, tare, o⟩ }) {}).trans
    (haltWith_steers _ _ a)

theorem takeBatchReport_steers (b : BitVec 16) (gross tare : BitVec 32) (f : Byte) (a : ActiveLaw s) :
    Steers s (takeBatchReport b gross tare f s).state := by
  unfold takeBatchReport
  split
  · exact .refl s
  · split
    · exact refuseReport_steers (a := a) ..
    · split
      · exact refuseReport_steers (a := a) ..
      · unfold takeAccepted
        split
        · exact faultReport_steers ..
        · exact (acceptReport_beside ..).steers

theorem deliver_steers (r : Transit) (rest : List Transit) (s : State) : Steers s (deliver r rest s) :=
  (Beside.trans (t := { s with belt.records := rest }) {} (landRecord_beside r _)).steers.trans
    ((recompute_steers _).trans ((finalisationTest_steers _).trans (drainTest_beside ..).steers))

theorem deliverDue_steers (n : Nat) (s : State) : Steers s (deliverDue n s) := by
  induction n generalizing s with
  | zero => exact .refl s
  | succ n ih =>
    unfold deliverDue
    split
    · exact .refl s
    · split
      · exact .refl s
      · exact (deliver_steers ..).trans (ih _)

theorem beltPulsed_steers (s : State) : Steers s (beltPulsed s) :=
  (Beside.steers (t := { s with belt.counter := s.belt.counter + BitVec.ofNat 32 s.settings.pulseTravel }) {}).trans
    (deliverDue_steers _ _)

theorem channelStale_steers (c : Channel) (s : State) : Steers s (channelStale c s) := by
  unfold channelStale
  split
  · exact handOn_steers c _ _ {}
  · exact .refl s

theorem lockoutExpired_steers (h : HoldId) (s : State) : Steers s (lockoutExpired h s) := by
  unfold lockoutExpired
  split
  · exact (Beside.trans (reachTime_beside _ s) (setHold_beside h _ _)).steers.trans (exclusionFormed_steers ..)
  · exact .refl s

/-! ### Lots, bills and the session (chapter 10) -/

theorem takeOpenLot_steers (n : BitVec 16) (a : Lot) (s : State) : Steers s (takeOpenLot n a s).state := by
  refine whileOpen_steers fun _ => ?_
  split
  · exact .refl s
  · split
    · exact .refl s
    · exact Beside.steers {}

theorem takeCloseLot_steers (n : BitVec 16) (s : State) : Steers s (takeCloseLot n s).state := by
  refine whileOpen_steers fun _ => ?_
  split
  · exact .refl s
  · split
    · exact .refl s
    · split
      · exact .refl s
      · next l _ _ _ =>
        exact (Beside.trans (t := { s.setLot l { s.lot l with state := .closing } with
          bank.closing := s.bank.closing ++ [_] }) {} (drainTest_beside ..)).steers

theorem takeReleaseBill_steers (n : BitVec 32) (s : State) : Steers s (takeReleaseBill n s).state := by
  unfold takeReleaseBill
  split
  · exact .refl s
  · split
    · exact .refl s
    · split
      · exact .refl s
      · exact (releaseHead_beside _ s).steers

theorem newSession_eases (vessel : BitVec 16) (s : State) : Eases s (newSession vessel s) := by
  have entered : Eases s (enterState .stopped (clearSession vessel s)) := .trans {} (enterState_scheduled ..).eases
  unfold newSession; dsimp only
  split
  · exact entered
  · exact entered.trans (raise_scheduled ..).eases

theorem takeVesselOpen_steers (code : BitVec 16) (a : ActiveLaw s) : Steers s (takeVesselOpen code s).state :=
  (takeVesselOpen_effects code s fun _ => a).steers_of_eases <| by
    unfold takeVesselOpen
    split
    · exact .refl s
    · split
      · exact .refl s
      · exact newSession_eases code s

theorem takeVesselClose_steers (s : State) : Steers s (takeVesselClose s).state :=
  (takeVesselClose_effects s).steers_of_eases <| by
    unfold takeVesselClose
    split
    · exact newSession_eases 0 s
    · exact .refl s

/-! ### Settings and resets (chapter 11) -/

theorem useSetting_steers (n : SettingName) (x : Int) (s : State) : Steers s (useSetting n x s) := by
  have writes : (∀ c, n ≠ .critical c) → Steers s { s with settings := s.settings.put n x } := fun h =>
    (putSetting_beside x s h).steers
  unfold useSetting
  split
  · exact handOn_steers _ _ _ {}
  · dsimp only
    split
    · exact .refl s
    · exact (writes nofun).trans (setPort_beside ..).steers
  all_goals exact writes nofun

theorem takeWriteSetting_steers (b : Byte) (sub : Option Byte) (v : BitVec 32) (s : State) :
    Steers s (takeWriteSetting b sub v s).state := by
  unfold takeWriteSetting
  split
  · exact .refl s
  · split
    · exact .refl s
    · split
      · exact .refl s
      · exact (useSetting_steers ..).trans (beginCopy_beside _).steers

/-- While reset is asserted every axis keeps its state and its position (R184). -/
theorem execReset_steers (s : State) : Steers s { holdOutputs s with inReset := true } :=
  (Effect.resets s).chain.steers_of_eases {}

theorem fresh_steers (now : Time) (i : Inputs) (v : Settings) (st : Store) (q : List Instr) :
    Steers s (State.fresh now i v st q) :=
  (Effect.startsUp s now i v st q).chain.steers fun _ => .of_still nofun fun _ => ⟨nofun, nofun⟩

theorem driveStanding_steers (a : Axis) (s : State) : Steers s (driveStanding a s) := by
  unfold driveStanding
  split
  · exact failAxis_steers ..
  · exact .refl s

theorem stopStanding_steers (a : ActiveLaw s) : Steers s (stopStanding s) := by
  unfold stopStanding
  split
  · next e =>
    have stops := emergencyStop_steers a
    rwa [show { s with inputs.eStop := true } = s by rw [← e]] at stops
  · exact .refl s

theorem startedUp_steers (s : State) : Steers s (startedUp s) := by
  unfold startedUp; dsimp only
  have fresh := (fresh_laws s.now s.inputs s.store.loaded { s.store with cond := .idle, copying := none } s.pending).1
  have starts : Steers s (State.fresh s.now s.inputs s.store.loaded { s.store with cond := .idle, copying := none } s.pending) :=
    fresh_steers ..
  generalize State.fresh s.now s.inputs s.store.loaded { s.store with cond := .idle, copying := none } s.pending = w at fresh starts ⊢
  have settings : Steers w (settingsEvent w) ∧ ActiveLaw (settingsEvent w) := by
    unfold settingsEvent; split
    · exact ⟨.refl w, fresh⟩
    · exact ⟨raise_steers _ w, fresh⟩
  exact starts.trans (settings.1.trans ((stopStanding_steers settings.2).trans
    ((driveStanding_steers ..).trans ((driveStanding_steers ..).trans (driveStanding_steers ..)))))

/-! ### Requests, frames and bytes -/

theorem request_steers {i : Instr} {p : Port} {owner : State → Taken} (e : request i p owner s = .next t)
    (h : Steers (idlePort p s) (owner (idlePort p s)).state) : Steers s t := by
  have idled : Steers s (idlePort p s) := (idlePort_beside p s).steers
  have answers : ∀ c r items w, Steers w (reply p c r items w) := fun c r items w => (setPort_beside ..).steers
  unfold request at e
  injection e with e
  subst e
  split
  · exact .refl s
  · split
    · exact idled
    · dsimp only
      split
      · exact idled.trans (answers ..)
      · split
        · exact idled.trans (answers ..)
        · exact idled.trans (h.trans (answers ..))

theorem event_steers {f : State → State} (e : event f s = .next t) (h : Steers s (f s)) : Steers s t := by
  unfold event at e
  injection e with e
  subst e
  split
  · exact .refl s
  · exact h

theorem reads_steers {r : Taken} (e : r.state = s) : Steers s r.state := by rw [e]; exact .refl s

/-- The request of a frame, by its code. -/
theorem takeRequest_steers (i : Instr) (a : ActiveLaw s) (e : takeRequest i s = .next t) : Steers s t := by
  cases i
  case vesselOpen => exact request_steers e (takeVesselOpen_steers _ a)
  case vesselClose => exact request_steers e (takeVesselClose_steers _)
  case declareHold => exact request_steers e (takeDeclareHold_steers ..)
  case setShipOffset => exact request_steers e (takeSetShipOffset_steers ..)
  case readHold => exact request_steers e (reads_steers (by unfold takeReadHold; split <;> rfl))
  case readStaged => exact request_steers e (reads_steers (by unfold takeReadStaged; split <;> [rfl; split] <;> rfl))
  case setHoldLimit => exact request_steers e (takeSetHoldLimit_steers ..)
  case closeHatch => exact request_steers e (takeCloseHatch_steers ..)
  case openHatch => exact request_steers e (takeOpenHatch_steers ..)
  case reportDraft => exact request_steers e (takeReportDraft_steers ..)
  case setTpc => exact request_steers e (takeSetTpc_steers ..)
  case suspend => exact request_steers e (takeSuspend_steers ..)
  case resume => exact request_steers e (takeResume_steers _)
  case holdFeed => exact request_steers e (takeReason_steers _ _ (.inr rfl))
  case releaseFeed => exact request_steers e (takeReason_steers _ _ (.inr rfl))
  case addOrder => exact request_steers e (takeAddOrder_steers ..)
  case withdrawOrder => exact request_steers e (takeWithdrawOrder_steers ..)
  case rearmOrder => exact request_steers e (takeRearmOrder_steers ..)
  case releaseOrder => exact request_steers e (takeReleaseOrder_steers ..)
  case readOrder => exact request_steers e (reads_steers (by unfold takeReadOrder; split <;> rfl))
  case setPass => exact request_steers e (whileOpen_steers fun _ => editPasses_steers ..)
  case clearPass => exact request_steers e (whileOpen_steers fun _ => editPasses_steers ..)
  case readPass => exact request_steers e (reads_steers (by unfold takeReadPass; split <;> rfl))
  case start => exact request_steers e (takeStart_steers _)
  case step => exact request_steers e (takeStep_steers _)
  case haltSchedule => exact request_steers e (takeHaltSchedule_steers a)
  case pause => exact request_steers e (takeReason_steers _ _ (.inl rfl))
  case continuePour => exact request_steers e (takeReason_steers _ _ (.inl rfl))
  case topOff => exact request_steers e (takeTopOff_steers _)
  case takeManual => exact request_steers e (takeTakeManual_steers _)
  case releaseManual => exact request_steers e (takeReleaseManual_steers _)
  case jog => exact request_steers e (takeJog_steers ..)
  case silenceHorn p =>
    exact request_steers e (Beside.steers (t := { idlePort p s with dust.hornOn := false }) {})
  case nextBatch => exact request_steers e (takeNextBatch_steers _)
  case batchReport => exact request_steers e (takeBatchReport_steers _ _ _ _ a)
  case scaleStatus => exact request_steers e (takeScaleStatus_steers ..)
  case openLot => exact request_steers e (takeOpenLot_steers ..)
  case closeLot => exact request_steers e (takeCloseLot_steers ..)
  case readLot => exact request_steers e (reads_steers (by unfold takeReadLot; split <;> [rfl; split] <;> rfl))
  case readBill => exact request_steers e (reads_steers (by unfold takeReadBill; split <;> rfl))
  case releaseBill => exact request_steers e (takeReleaseBill_steers ..)
  case writeSetting => exact request_steers e (takeWriteSetting_steers ..)
  case readSetting => exact request_steers e (reads_steers (by unfold takeReadSetting; split <;> rfl))
  case readStatus => exact request_steers e (reads_steers (by unfold takeReadStatus; split <;> rfl))
  case readEvents => exact request_steers e (setPort_beside ..).steers
  case setEventEnable =>
    refine request_steers e ?_
    unfold takeSetEventEnable
    split
    · exact .refl _
    · exact (setPort_beside ..).steers
  all_goals exact Host.Outcome.next.inj e ▸ .refl s

theorem takeFrame_steers {p : Port} {c : Byte} {body : List Byte} (a : ActiveLaw s) (e : takeFrame p c body s = .next t) :
    Steers s t := by
  have idled : Steers s (idlePort p s) := (idlePort_beside p s).steers
  unfold takeFrame at e
  split at e
  · exact Host.Outcome.next.inj e ▸ .refl s
  · split at e
    · exact Host.Outcome.next.inj e ▸ idled
    · split at e
      · exact takeRequest_steers _ a e
      · exact Host.Outcome.next.inj e ▸ idled.trans (setPort_beside ..).steers

theorem byteInFrame_steers {p : Port} {got : List Byte} {b : Byte} (a : ActiveLaw s) (e : byteInFrame p got b s = .next t) :
    Steers s t := by
  have idled : Steers s (idlePort p s) := (idlePort_beside p s).steers
  unfold byteInFrame at e
  split at e
  · rw [← Host.Outcome.next.inj e]
    split <;> exact Beside.steers {}
  · split at e
    · exact Host.Outcome.next.inj e ▸ Beside.steers {}
    · unfold frameGathered at e
      dsimp only at e
      split at e
      · split at e
        · exact idled.trans (takeFrame_steers (s := idlePort p s) a e)
        · exact Host.Outcome.next.inj e ▸ idled
      · exact Host.Outcome.next.inj e ▸ idled

theorem execByteArrival_steers {p : Port} {b : Byte} (a : ActiveLaw s) (e : execByteArrival p b s = .next t) : Steers s t := by
  have idle : Steers s (byteInIdle p b s) := (byteInIdle_beside p b s).steers
  unfold execByteArrival byteTaken at e
  split at e
  · exact Host.Outcome.next.inj e ▸ .refl s
  · split at e
    · exact Host.Outcome.next.inj e ▸ idle
    · split at e
      · exact Host.Outcome.next.inj e ▸ idle
      · exact byteInFrame_steers a e

/-! ### Every command and every step -/

theorem exec_steers (i : Instr) (a : ActiveLaw s) (e : exec i s = .next t) : Steers s t := by
  cases r : i.requestPort with
  | some p => exact takeRequest_steers i a (exec_of_request r s ▸ e)
  | none =>
    cases i
    case frameRefused => exact takeFrame_steers a e
    case frameDiscarded => exact event_steers e (idlePort_beside _ s).steers
    case frameGapTimeout => exact event_steers e (gapPassed_beside _ s).steers
    case replySent => exact event_steers e (replyGone_beside _ s).steers
    case reset => exact Host.Outcome.next.inj e ▸ execReset_steers s
    case startUp => exact Host.Outcome.next.inj e ▸ startedUp_steers s
    case writeCompletion => exact event_steers e (writeCompleted_beside s).steers
    case emergencyStopAssert =>
      rw [← Host.Outcome.next.inj e]
      split
      · next r => exact (Effect.notesStop r).chain.steers_of_eases {}
      · exact emergencyStop_steers a
    case emergencyStopRelease => exact Host.Outcome.next.inj e ▸ (Effect.releasesStop s).chain.steers_of_eases {}
    case driveFaultAssert x =>
      rw [← Host.Outcome.next.inj e]
      have noted : Steers s { s with inputs.driveFault := s.inputs.driveFault.set x true } := Beside.steers {}
      split
      · exact noted
      · exact noted.trans (failAxis_steers ..)
    case driveFaultRelease => exact Host.Outcome.next.inj e ▸ Beside.steers {}
    case positionArrival => exact event_steers e (positionArrived_steers _ _ a)
    case classArrival a c =>
      exact event_steers (f := fun w => w.setAxis a ((w.axis a).confirm w.now c)) e (classArrived_steers a c s)
    case classDeadlineExpiry => exact event_steers e (classExpired_steers _ s)
    case moveDeadlineExpiry => exact event_steers e (moveExpired_steers _ s)
    case beltConfirmChange => exact Host.Outcome.next.inj e ▸ confirmChanged_steers _ s
    case confirmDeadlineExpiry => exact event_steers e (confirmExpired_steers s)
    case beltPulse => exact event_steers e (beltPulsed_steers s)
    case riverLevelArrival => exact event_steers e (levelArrived_steers _ s)
    case levelStale => exact event_steers e (levelGoesStale_steers s)
    case dustSampleArrival => exact event_steers e (handOn_steers _ _ _ {})
    case dustStaleExpiry => exact event_steers e (channelStale_steers _ s)
    case lockoutExpiry => exact event_steers e (lockoutExpired_steers _ s)
    case examination => exact event_steers e (examine_steers s)
    case byteArrival => exact execByteArrival_steers a e
    case framingError => exact event_steers e (idlePort_beside _ s).steers
    all_goals cases r

theorem step_steers (a : ActiveLaw s) (e : step s = .next t) : Steers s t := by
  unfold step at e
  split at e
  · have taken : Steers s s.rest := Beside.steers {}
    exact taken.trans (exec_steers _ (s := s.rest) a e)
  · exact Host.Outcome.next.inj e ▸ Beside.steers {}

/-- Settles O20: every command is made of operations that keep the law of the traverse together with that of the pauses, under which a
travel in progress is under AUTO and a pour's end leaves none. -/
theorem traverseLawKept : Obligations.TraverseLawKept := by
  unfold Obligations.TraverseLawKept
  intro s t a p l e
  exact ((step_steers a e).keeps ⟨p, l⟩).traverse

end Sys2Proof.Machine
end

section
/-! A position arrival with no travel in hand (R83, R85) and a class arrival (R86). -/

set_option Elab.async false

namespace Sys2Proof.Machine

variable {s : State} {a : Axis}

/-! ### Position arrivals (R83, R85) -/

/-- Outside a pour a deasserted run line stays as it is (R63, R64). -/
theorem setRunLine_idle (n : s.sched.state.isPour = false) (line : s.pour.runLine = false) (off : s.pour.supervision = .off)
    (none_ : s.pour.confirmDeadline = none) : setRunLine s = s := by
  have unwanted : s.runWanted ≠ true := fun w => by rw [runWanted_isPour w] at n; cases n
  have same : { s.pour with runLine := false, supervision := .off, confirmDeadline := none } = s.pour := by
    rw [← line, ← off, ← none_]
  rw [setRunLine, if_neg unwanted, same]

/-- With no travel in hand an arrival changes nothing beyond its axis. -/
theorem afterArrival_idle (idle : s.spout.cond = none)
    (line : a = .spout ∨ (s.sched.state.isPour = false ∧ s.pour.runLine = false ∧ s.pour.supervision = .off ∧
      s.pour.confirmDeadline = none)) : afterArrival a s = s := by
  have across : a ≠ .spout → settle (traverseArrived (setRunLine s)) = s := fun n => by
    obtain ⟨rest, run, off, none_⟩ := line.resolve_left n
    rw [setRunLine_idle rest run off none_, traverseArrived_idle (.inr (by rw [idle]; nofun))]
    rfl
  cases a with
  | gantry => exact across nofun
  | reach => exact across nofun
  | spout => exact (spoutArrival s).1 (.inl idle)

/-- Only a MOVING axis makes more of a position than to note it. -/
theorem AxisRec.arrivedAt_still {r : AxisRec} (v : Settings) (now : Time) (x : Int) (n : r.state ≠ .moving) :
    r.arrivedAt v now x = { r with position := some x } := by
  unfold AxisRec.arrivedAt
  split
  · next e _ _ => exact absurd e n
  · rfl

/-- What a MOVING axis makes of a position (R85). -/
theorem AxisRec.arrivedAt_moving {r : AxisRec} {goal : Int} {k : MoveKind} (v : Settings) (now : Time) (x : Int)
    (st : r.state = .moving) (tg : r.target = some goal) (kd : r.kind = some k) :
    ((x - goal).natAbs ≤ v.tolerance → r.arrivedAt v now x = { r with
        position := some x, state := .inpos, commanded := .stop, moveDeadline := none
        classDeadline := if r.confirmed = .stop then none else some (now + 2000) }) ∧
      (v.tolerance < (x - goal).natAbs → k = .tracking → r.arrivedAt v now x = { r with position := some x }) ∧
      (∀ c : SpeedClass, v.tolerance < (x - goal).natAbs → k = .graded →
        c = (if v.fineZone < (x - goal).natAbs then .fast else .fine) → r.arrivedAt v now x =
          if c = r.commanded then { r with position := some x }
          else { r with
            position := some x, commanded := c, classDeadline := if r.confirmed = c then none else some (now + 2000) }) := by
  unfold AxisRec.arrivedAt
  rw [st, tg, kd]
  refine ⟨fun near => if_pos near, ?_, ?_⟩
  · rintro far rfl
    exact (if_neg (by omega)).trans (if_pos (.inl rfl))
  · rintro c far rfl rfl
    refine (if_neg (by omega)).trans ?_
    simp only [reduceCtorEq, false_or]

/-- Settles O46: an arrival within range by the state of the axis and the kind of its move, and one out of range. -/
theorem positionsArrive : Obligations.PositionsArrive := by
  unfold Obligations.PositionsArrive
  intro s a v nr idle line
  have within_ : (s.axis a).state = .fault ∨
      (s.settings.lower.get a - 200 ≤ v.toInt ∧ v.toInt ≤ s.settings.upper.get a + 200) →
      exec (.positionArrival a v) s = .next (s.setAxis a ((s.axis a).arrivedAt s.settings s.now v.toInt)) := fun h =>
    (event_taken nr).trans (congrArg _ ((positionArrived_within h).trans (afterArrival_idle idle line)))
  refine ⟨fun h => ?_, fun goal st tg inside => ?_, fun nf out n => ?_⟩
  · rw [within_ (h.imp_right fun ⟨_, inside⟩ => by omega)]
    rw [AxisRec.arrivedAt_still _ _ _ (h.elim (fun f => by rw [f]; nofun) And.left)]
  · rw [within_ (.inr (by omega))]
    refine ⟨fun some_ near => ?_, fun k kd far class_ => ?_, fun kd far => ?_⟩
    · obtain ⟨k, kd⟩ := Option.isSome_iff_exists.mp some_
      rw [(AxisRec.arrivedAt_moving _ _ _ st tg kd).1 near]
    · rw [(AxisRec.arrivedAt_moving _ _ _ st tg kd).2.2 k far rfl class_]
    · rw [(AxisRec.arrivedAt_moving _ _ _ st tg kd).2.1 far rfl]
  · obtain ⟨run, state, sched, -⟩ := exec_axisFault nr (.inr (.inr (.inr ⟨v, nf, out, rfl, rfl, rfl⟩)))
    rw [run, failAxis_idle (by rw [state]; exact nf) (by rw [sched]; exact n), State.setAxis_setAxis, State.axis_setAxis,
      if_pos rfl]
    rfl

/-! ### Class arrivals (R86) -/

/-- Settles O48: the record after a class arrival is the one R86 states. -/
theorem classesArrive : Obligations.ClassesArrive := by
  unfold Obligations.ClassesArrive
  intro s a c nr
  have run : exec (.classArrival a c) s = .next (s.setAxis a ((s.axis a).confirm s.now c)) :=
    event_taken (f := fun w => w.setAxis a ((w.axis a).confirm w.now c)) nr
  rw [run, AxisRec.confirm_eq]
  rfl

end Sys2Proof.Machine
end

section
/-! JOG with its clearance clamps (R103 to R105), and the heights it reads (R113 to R115). -/

set_option Elab.async false

namespace Sys2Proof.Machine

variable {s : State} {a : Axis}

/-! ### The target of a jog (R104, R105) -/

theorem clampInt_within {lo hi x : Int} (l : lo ≤ x) (h : x ≤ hi) : clampInt lo hi x = x := by
  rw [clampInt, if_neg (by omega), if_neg (by omega)]

/-- The height that a jog of an axis to `c` has to clear (R104, R105). -/
def State.jogHeight (s : State) (a : Axis) (c : Int) : Int :=
  if a = .gantry then s.travelHeight (s.moveFromGantry c) else s.travelHeight s.moveInPlace

/-- The interval that the opening of a hold leaves to GANTRY or REACH (R5). -/
def State.openingFor (s : State) (a : Axis) (h : HoldId) : Int × Int :=
  if a = .gantry then s.openingX h else s.openingY h

theorem jogTarget_level (x c : Int) (n : a ≠ .spout) : s.jogTarget a x c = s.levelJog (s.jogHeight a c) (s.openingFor a) c := by
  cases a with
  | gantry => rfl
  | reach => rfl
  | spout => exact absurd rfl n

theorem jogTarget_eq_some {x c goal : Int}
    (h : (a = .spout ∧ (x ≤ c ∨ s.staysInHatch = true ∨ s.travelHeight s.moveInPlace ≤ c) ∧ goal = c) ∨
      (a = .spout ∧ c < x ∧ s.staysInHatch = false ∧ c < s.travelHeight s.moveInPlace ∧
        s.travelHeight s.moveInPlace ≤ s.settings.upper.spout ∧ goal = s.travelHeight s.moveInPlace) ∨
      (a ≠ .spout ∧ s.lowPointAtOrAbove (s.jogHeight a c) = true ∧ goal = c) ∨
      (∃ h, a ≠ .spout ∧ s.lowPointAtOrAbove (s.jogHeight a c) = false ∧ s.holdUnder = some h ∧
        goal = clampInt (s.openingFor a h).1 (s.openingFor a h).2 c)) : s.jogTarget a x c = some goal := by
  rcases h with ⟨rfl, stands, rfl⟩ | ⟨rfl, lowers, outside, below, feasible, rfl⟩ | ⟨n, clear, rfl⟩ | ⟨h, n, below, under, rfl⟩
  · exact if_pos stands
  · have falls : ¬(x ≤ c ∨ s.staysInHatch = true ∨ s.travelHeight s.moveInPlace ≤ c) := by
      simp only [outside, Bool.false_eq_true, false_or]; omega
    exact (if_neg falls).trans (if_pos feasible)
  · rw [jogTarget_level _ _ n, State.levelJog, if_pos clear]
  · rw [jogTarget_level _ _ n, State.levelJog, if_neg (by rw [below]; nofun), under]
    rfl

theorem jogTarget_eq_none {x c : Int}
    (h : (a = .spout ∧ c < x ∧ s.staysInHatch = false ∧ c < s.travelHeight s.moveInPlace ∧
        s.settings.upper.spout < s.travelHeight s.moveInPlace) ∨
      (a ≠ .spout ∧ s.lowPointAtOrAbove (s.jogHeight a c) = false ∧ s.holdUnder = none)) : s.jogTarget a x c = none := by
  rcases h with ⟨rfl, lowers, outside, below, unfeasible⟩ | ⟨n, below, under⟩
  · have falls : ¬(x ≤ c ∨ s.staysInHatch = true ∨ s.travelHeight s.moveInPlace ≤ c) := by
      simp only [outside, Bool.false_eq_true, false_or]; omega
    exact (if_neg falls).trans (if_neg (by omega))
  · rw [jogTarget_level _ _ n, State.levelJog, if_neg (by rw [below]; nofun), under]
    rfl

/-! ### The request (R103) -/

/-- Where a jog of `d` leads before the clearance clamps (R103). -/
def State.jogAim (s : State) (a : Axis) (x : Int) (d : BitVec 32) : Int :=
  clampInt (s.settings.lower.get a) (s.settings.upper.get a) (x + d.toInt)

theorem takeJog_moves {b : Byte} {d : BitVec 32} {x goal : Int} (hb : axisOf b = some a) (manual : s.spout.manual = true)
    (released : s.inputs.eStop = false) (whole : (s.axis a).state ≠ .fault) (pos : (s.axis a).position = some x)
    (target : s.jogTarget a x (s.jogAim a x d) = some goal) :
    takeJog b d s = .done (moveAxis a .graded goal s) (s16 (((moveAxis a .graded goal s).axis a).target.getD goal)) := by
  unfold State.jogAim at target
  simp [takeJog, hb, manual, released, whole, pos, target]

theorem takeJog_refused {b : Byte} {d : BitVec 32} {x : Int} (hb : axisOf b = some a)
    (h : s.spout.manual = false ∨ s.inputs.eStop = true ∨ (s.axis a).state = .fault ∨ (s.axis a).position = none ∨
      ((s.axis a).position = some x ∧ s.jogTarget a x (s.jogAim a x d) = none)) : takeJog b d s = .refuse s .state := by
  unfold takeJog
  rw [hb]
  dsimp only
  split
  · rfl
  · next free =>
    simp only [Bool.or_eq_true, not_or, Bool.not_eq_true, Bool.not_eq_false', beq_eq_false_iff_ne] at free
    obtain ⟨⟨manual, released⟩, whole⟩ := free
    rcases h with h | h | h | none_ | ⟨pos, target⟩
    · rw [manual] at h; cases h
    · rw [released] at h; cases h
    · exact absurd h whole
    · rw [none_]
    · unfold State.jogAim at target
      rw [pos]
      dsimp only
      rw [target]

/-- The record of an axis that a jog sends to a target within its limits (R84, R103). -/
theorem given_jog {x goal : Int} (released : s.inputs.eStop = false) (whole : (s.axis a).state ≠ .fault)
    (pos : (s.axis a).position = some x) (lo : s.settings.lower.get a ≤ goal) (hi : goal ≤ s.settings.upper.get a) :
    s.given a .graded goal =
      if (x - goal).natAbs ≤ s.settings.tolerance then
        { s.axis a with
          target := some goal, kind := some .graded, state := .inpos, commanded := .stop, moveDeadline := none
          classDeadline := if (s.axis a).confirmed = .stop then none else some (s.now + 2000) }
      else
        let k : SpeedClass := if s.settings.fineZone < (x - goal).natAbs then .fast else .fine
        { s.axis a with
          target := some goal, kind := some .graded, state := .moving, commanded := k
          moveDeadline := some (s.now + s.settings.timeout.get a * 1000)
          classDeadline := if (s.axis a).confirmed = k then none else some (s.now + 2000) } := by
  have free : ¬((s.axis a).state = .fault ∨ s.inputs.eStop = true) := by simp [whole, released]
  unfold State.given
  rw [clampInt_within lo hi]
  dsimp only
  rw [if_neg free, pos]
  by_cases near : (x - goal).natAbs ≤ s.settings.tolerance
  · simp [near, eq_comm]
  · by_cases far : s.settings.fineZone < (x - goal).natAbs <;> simp [near, far, eq_comm]

theorem exec_jog_moves {b : Byte} {d : BitVec 32} {x goal : Int} (ht : s.takes .cab) (hb : axisOf b = some a)
    (manual : s.spout.manual = true) (released : s.inputs.eStop = false) (whole : (s.axis a).state ≠ .fault)
    (pos : (s.axis a).position = some x) (target : s.jogTarget a x (s.jogAim a x d) = some goal)
    (lo : s.settings.lower.get a ≤ goal) (hi : goal ≤ s.settings.upper.get a) :
    exec (.jog .cab b d) s = .next ((s.setAxis a (s.given a .graded goal)).answered .cab 0x19 .done (s16 goal)) := by
  have aimed : (s.given a .graded goal).target = some goal := by
    rw [given_jog released whole pos lo hi]; split <;> rfl
  refine request_answered (owner := takeJog b d) ht ?_
  rw [takeJog_moves (s := idlePort .cab s) hb manual released whole pos target, moveAxis_given, State.axis_setAxis, if_pos rfl]
  change Taken.done ((idlePort .cab s).setAxis a (s.given a .graded goal)) (s16 ((s.given a .graded goal).target.getD goal)) = _
  rw [aimed]
  rfl

theorem exec_jog_refused {b : Byte} {d : BitVec 32} {x : Int} (ht : s.takes .cab) (hb : axisOf b = some a)
    (h : s.spout.manual = false ∨ s.inputs.eStop = true ∨ (s.axis a).state = .fault ∨ (s.axis a).position = none ∨
      ((s.axis a).position = some x ∧ s.jogTarget a x (s.jogAim a x d) = none)) :
    exec (.jog .cab b d) s = .next (s.answered .cab 0x19 .state) :=
  request_refused (owner := takeJog b d) ht (takeJog_refused (s := idlePort .cab s) hb h)

/-! ### The heights (R113 to R115) -/

theorem span_le (s : State) (h : HoldId) : (s.span h).1 ≤ (s.span h).2 := le_trans (min_le_left ..) (le_max_left ..)

/-- A hold counts for a move where its reach and the move's interval have a place in common (R113). -/
theorem counts_iff {lo hi : Int} (le : lo ≤ hi) (h : HoldId) :
    s.counts (lo, hi) h = true ↔ (s.hold h).declared = true ∧
      ∃ z, lo ≤ z ∧ z ≤ hi ∧ (s.span h).1 - s.settings.hatchMargin ≤ z ∧ z ≤ (s.span h).2 + s.settings.hatchMargin := by
  have span := span_le s h
  simp only [State.counts, Bool.and_eq_true, decide_eq_true_eq, and_assoc]
  refine and_congr_right fun _ => ⟨fun ⟨before, after⟩ => ?_, ?_⟩
  · exact ⟨max lo ((s.span h).1 - s.settings.hatchMargin), by omega⟩
  · rintro ⟨z, _, _, _, _⟩; omega

/-- A maximum taken along a list bounds its entries and is one of them. -/
theorem foldl_max_spec {α : Type} (f : α → Nat) (l : List α) (m : Nat) :
    (m ≤ l.foldl (fun m k => max m (f k)) m ∧ ∀ k ∈ l, f k ≤ l.foldl (fun m k => max m (f k)) m) ∧
      (l.foldl (fun m k => max m (f k)) m = m ∨ ∃ k ∈ l, l.foldl (fun m k => max m (f k)) m = f k) := by
  induction l generalizing m with
  | nil => simp
  | cons k l ih =>
    obtain ⟨⟨start, bounds⟩, attained⟩ := ih (max m (f k))
    simp only [List.foldl_cons, List.mem_cons, forall_eq_or_imp, exists_eq_or_imp]
    refine ⟨⟨by omega, by omega, bounds⟩, ?_⟩
    rcases attained with e | e
    · rcases max_choice m (f k) with c | c
      · exact .inl (e.trans c)
      · exact .inr (.inl (e.trans c))
    · exact .inr (.inr e)

/-- The travel height of a move: the park height where no hold counts, else the greatest top of those that count with the travel
margin (R114). -/
theorem travelHeight_spec (s : State) (move : Int × Int) :
    ((∀ h, ¬s.counts move h = true) → s.travelHeight move = s.settings.park) ∧
      (∀ h, s.counts move h = true → (s.top h : Int) + s.settings.travelMargin ≤ s.travelHeight move) ∧
      ((∃ h, s.counts move h = true) →
        ∃ h, s.counts move h = true ∧ s.travelHeight move = (s.top h : Int) + s.settings.travelMargin) := by
  have mem : ∀ h, s.counts move h = true ↔ h ∈ (List.finRange 8).filter (s.counts move) := fun h => by simp
  simp only [mem]
  unfold State.travelHeight
  cases (List.finRange 8).filter (s.counts move) with
  | nil => simp
  | cons k l =>
    obtain ⟨⟨start, bounds⟩, attained⟩ := foldl_max_spec s.top l (s.top k)
    dsimp only
    refine ⟨fun n => absurd List.mem_cons_self (n k), fun h m => ?_, fun _ => ?_⟩
    · rcases List.mem_cons.mp m with rfl | m
      · omega
      · have := bounds h m; omega
    · rcases attained with e | ⟨h, m, e⟩
      · exact ⟨k, List.mem_cons_self, by rw [e]; push_cast; rfl⟩
      · exact ⟨h, List.mem_cons_of_mem _ m, by rw [e]; push_cast; rfl⟩

theorem clampInt_eq {lo hi x : Int} (h : lo ≤ hi) : clampInt lo hi x = max lo (min hi x) := by
  unfold clampInt; split <;> [skip; split] <;> omega

/-- The pour height of a hold (R115). -/
theorem pourHeight_eq (h : HoldId) (le : s.settings.lower.spout ≤ s.settings.upper.spout) :
    s.pourHeight h = max s.settings.lower.spout (min s.settings.upper.spout
      ((s.top h : Int) - s.settings.pourDepth - (if s.level .head = .warn then (s.settings.chokeStep : Int) else 0))) := by
  rw [State.pourHeight, clampInt_eq le]
  simp [State.choke]

/-- The interval of a move from the present GANTRY position (R113). -/
theorem moveFromGantry_eq {goal lo hi : Int} (here : ∀ x, s.axes.gantry.position = some x → lo = min x goal ∧ hi = max x goal)
    (absent : s.axes.gantry.position = none → lo = -20000 ∧ hi = 20000) : s.moveFromGantry goal = (lo, hi) ∧ lo ≤ hi := by
  unfold State.moveFromGantry
  cases e : s.axes.gantry.position with
  | none => obtain ⟨rfl, rfl⟩ := absent e; exact ⟨rfl, by decide⟩
  | some x => obtain ⟨rfl, rfl⟩ := here x e; exact ⟨rfl, min_le_max⟩

/-- Settles O45: the request by whether the clamps leave a target, then the heights. -/
theorem axesJogged : Obligations.AxesJogged := by
  unfold Obligations.AxesJogged
  refine ⟨fun s a d x goal ht => ?_, fun s goal lo hi here absent => ?_⟩
  · intro c place height
    refine ⟨fun manual released whole pos clamps lo hi => ?_, fun h => ?_, ?_⟩
    · have target : s.jogTarget a x (s.jogAim a x d) = some goal := jogTarget_eq_some clamps
      rw [exec_jog_moves ht (by cases a <;> rfl) manual released whole pos target lo hi, given_jog released whole pos lo hi]
    · refine exec_jog_refused (a := a) (x := x) ht (by cases a <;> rfl) ?_
      rcases h with manual | stop | fault | none_ | ⟨sp, pos, clamps⟩ | ⟨n, pos, clamps⟩
      · exact .inl manual
      · exact .inr (.inl stop)
      · exact .inr (.inr (.inl fault))
      · exact .inr (.inr (.inr (.inl none_)))
      · exact .inr (.inr (.inr (.inr ⟨pos, jogTarget_eq_none (.inl ⟨sp, clamps⟩)⟩)))
      · exact .inr (.inr (.inr (.inr ⟨pos, jogTarget_eq_none (.inr ⟨n, clamps⟩)⟩)))
    · exact request_refused (owner := takeJog 3 d) ht rfl
  · obtain ⟨move, le⟩ := moveFromGantry_eq here absent
    obtain ⟨park, bounds, attained⟩ := travelHeight_spec s (s.moveFromGantry goal)
    simp only [move, counts_iff le] at park bounds attained
    intro meets top height
    rw [show height = s.travelHeight (lo, hi) from congrArg s.travelHeight move]
    exact ⟨park, bounds, attained, fun h le => pourHeight_eq h le⟩

end Sys2Proof.Machine
end
